-- ==== Sys2Proof/Word.lean ====
section
/-!
DEFINITION. The two word types of the core (00_scope.md R8): 8-bit data and 16-bit addresses.
Arithmetic on both is the wrapping arithmetic of `BitVec` (R12, R59).
-/

namespace Sys2Proof

/-- A register or bus datum: 8 bits (00_scope.md R8). -/
abbrev Byte := BitVec 8

/-- An address, pc, sp or a register pair: 16 bits (00_scope.md R8). -/
abbrev Word := BitVec 16

end Sys2Proof
end

