-- ==== Sys2Proof/Syntax.lean ====
section
/-!
DEFINITION. The instructions as syntax: register names and operand fields (30_encoding.md R72 to R74, 40_sequencer.md R100),
the 38 forms of R77 with their fields, the 202 rows of spec/opcode_table.json, and a whole instruction as it lies in memory.

A row is what the dispatcher selects for `(opcode, prefixed)`; it holds no immediate, because decoding "reads no other
state" (R82) and each immediate byte is read from the bus by the handler's own rows (40_sequencer.md R101; log entry 10).
-/

namespace Sys2Proof

/-- The registers an 8-bit register field can name (30_encoding.md R72). No field names f; code 6 is the operand `(HL)`. -/
inductive Reg8 where
  | b | c | d | e | h | l | a
deriving DecidableEq, Repr

/-- Every 16-bit register operand of the resolver: the four composite views and sp (40_sequencer.md R100, `REG16`). -/
inductive Reg16 where
  | bc | de | hl | sp | af
deriving DecidableEq, Repr

/-- The pair field of LD rr,nn, INC rr and DEC rr (30_encoding.md R73). -/
inductive PairRR where
  | bc | de | hl | sp
deriving DecidableEq, Repr

/-- The pair field of PUSH qq (30_encoding.md R73). -/
inductive PairQQ where
  | bc | de | hl | af
deriving DecidableEq, Repr

/-- The pairs that can hold the address of a memory operand (40_sequencer.md R100, `IND`). -/
inductive IndPair where
  | bc | de | hl
deriving DecidableEq, Repr

/-- The instruction forms of 30_encoding.md R77 with their operand fields. Each form is one cycle table. -/
inductive Form where
  -- sequencing (40_sequencer.md R110, R112)
  | nop | prefixCB
  -- 8-bit loads (41_load8.md R121 to R139)
  | ldRegReg (dst src : Reg8) | ldRegImm (dst : Reg8) | ldRegIndHL (dst : Reg8) | ldIndHLReg (src : Reg8) | ldIndHLImm
  | ldAIndBC | ldAIndDE | ldIndBCA | ldIndDEA | ldAIndHLI | ldAIndHLD | ldIndHLIA | ldIndHLDA
  | ldADir | ldDirA | ldhAImm | ldhImmA | ldAHighC | ldHighCA
  -- 16-bit loads (42_load16.md R150 to R152)
  | ldPairImm (rr : PairRR) | ldSPHL | ldDirSP
  -- compare (43_compare.md R161 to R163)
  | cpReg (src : Reg8) | cpIndHL | cpImm
  -- increment and decrement (44_incdec.md R170 to R177)
  | incReg (dst : Reg8) | incIndHL | decReg (dst : Reg8) | decIndHL | incPair (rr : PairRR) | decPair (rr : PairRR)
  -- CB table (45_cb_rotate_bit.md R190 to R193)
  | rlReg (src : Reg8) | rlIndHL | bitReg (bit : Fin 8) (src : Reg8) | bitIndHL (bit : Fin 8)
  -- stack (46_stack.md R210)
  | push (qq : PairQQ)
deriving DecidableEq, Repr

/-- The rows of spec/opcode_table.json, one constructor each, grouped by form (30_encoding.md R77, R84). A name is the row's
assembler spelling (R83) with `Ind` for a memory operand: `ldBIndHL` is LD B,(HL), `ldIndNnA` is LD (nn),A,
`ldAIndC` is LD A,(C), `ldAIndHLI` is LD A,(HL+), `bit0IndHL` is BIT 0,(HL); `N` and `Nn` stand for an immediate. -/
inductive Instr where
  -- NOP: R110
  | nop
  -- PREFIX CB: R112
  | prefixCB
  -- LD r,r': R121
  | ldBB | ldBC | ldBD | ldBE | ldBH | ldBL | ldBA | ldCB | ldCC | ldCD | ldCE | ldCH | ldCL | ldCA | ldDB | ldDC | ldDD
  | ldDE | ldDH | ldDL | ldDA | ldEB | ldEC | ldED | ldEE | ldEH | ldEL | ldEA | ldHB | ldHC | ldHD | ldHE | ldHH | ldHL
  | ldHA | ldLB | ldLC | ldLD | ldLE | ldLH | ldLL | ldLA | ldAB | ldAC | ldAD | ldAE | ldAH | ldAL | ldAA
  -- LD r,(HL): R123
  | ldBIndHL | ldCIndHL | ldDIndHL | ldEIndHL | ldHIndHL | ldLIndHL | ldAIndHL
  -- LD (HL),r: R124
  | ldIndHLB | ldIndHLC | ldIndHLD | ldIndHLE | ldIndHLH | ldIndHLL | ldIndHLA
  -- LD r,n: R122
  | ldBN | ldCN | ldDN | ldEN | ldHN | ldLN | ldAN
  -- LD (HL),n: R125
  | ldIndHLN
  -- LD A,(BC): R126
  | ldAIndBC
  -- LD A,(DE): R127
  | ldAIndDE
  -- LD (BC),A: R128
  | ldIndBCA
  -- LD (DE),A: R129
  | ldIndDEA
  -- LD A,(HL+): R130
  | ldAIndHLI
  -- LD A,(HL-): R131
  | ldAIndHLD
  -- LD (HL+),A: R132
  | ldIndHLIA
  -- LD (HL-),A: R133
  | ldIndHLDA
  -- LD A,(nn): R134
  | ldAIndNn
  -- LD (nn),A: R135
  | ldIndNnA
  -- LDH A,(n): R136
  | ldhAIndN
  -- LDH (n),A: R137
  | ldhIndNA
  -- LD A,(C): R138
  | ldAIndC
  -- LD (C),A: R139
  | ldIndCA
  -- LD rr,nn: R150
  | ldBCNn | ldDENn | ldHLNn | ldSPNn
  -- LD SP,HL: R151
  | ldSPHL
  -- LD (nn),SP: R152
  | ldIndNnSP
  -- CP r: R161
  | cpB | cpC | cpD | cpE | cpH | cpL | cpA
  -- CP (HL): R162
  | cpIndHL
  -- CP n: R163
  | cpN
  -- INC r: R170
  | incB | incC | incD | incE | incH | incL | incA
  -- DEC r: R172
  | decB | decC | decD | decE | decH | decL | decA
  -- INC (HL): R171
  | incIndHL
  -- DEC (HL): R173
  | decIndHL
  -- INC rr: R176
  | incBC | incDE | incHL | incSP
  -- DEC rr: R177
  | decBC | decDE | decHL | decSP
  -- PUSH qq: R210
  | pushBC | pushDE | pushHL | pushAF
  -- RL r: R190
  | rlB | rlC | rlD | rlE | rlH | rlL | rlA
  -- RL (HL): R191
  | rlIndHL
  -- BIT b,r: R192
  | bit0B | bit0C | bit0D | bit0E | bit0H | bit0L | bit0A | bit1B | bit1C | bit1D | bit1E | bit1H | bit1L | bit1A | bit2B
  | bit2C | bit2D | bit2E | bit2H | bit2L | bit2A | bit3B | bit3C | bit3D | bit3E | bit3H | bit3L | bit3A | bit4B | bit4C
  | bit4D | bit4E | bit4H | bit4L | bit4A | bit5B | bit5C | bit5D | bit5E | bit5H | bit5L | bit5A | bit6B | bit6C | bit6D
  | bit6E | bit6H | bit6L | bit6A | bit7B | bit7C | bit7D | bit7E | bit7H | bit7L | bit7A
  -- BIT b,(HL): R193
  | bit0IndHL | bit1IndHL | bit2IndHL | bit3IndHL | bit4IndHL | bit5IndHL | bit6IndHL | bit7IndHL
deriving DecidableEq, Repr

/-- A whole instruction as it lies in memory: the instruction and its immediate bytes, lowest address first
(30_encoding.md R70). For a CB-table instruction the prefix byte is part of the instruction, not of `imm`. -/
structure Code where
  instr : Instr
  imm : List Byte
deriving DecidableEq, Repr

end Sys2Proof
end

