-- ==== Sys2Proof/Decode.lean ====
section
/-!
DEFINITION. The encoding of 30_encoding.md. `decode` is the dispatcher's lookup in the two maps of R78, laid out here row by row
as the spec lays them out; `encodeOp` is written apart from it, from the bit patterns of R77 and the field codes of R71 to R74.
`decodeBytes` reads a whole instruction from consecutive bytes (R70) and rejects by name; `encode` writes one.
-/

namespace Sys2Proof

/-! ## The two opcode maps (R78) -/

/-- A row of a map that holds no handler at all (R78). -/
def emptyMapRow : List (Option Instr) :=
  [none, none, none, none, none, none, none, none, none, none, none, none, none, none, none, none]

/-- Unprefixed table, high nibble 0 (R78). -/
def mapRow0 : List (Option Instr) :=
  [some .nop, some .ldBCNn, some .ldIndBCA, some .incBC, some .incB, some .decB, some .ldBN, none,
   some .ldIndNnSP, none, some .ldAIndBC, some .decBC, some .incC, some .decC, some .ldCN, none]

/-- Unprefixed table, high nibble 1 (R78). -/
def mapRow1 : List (Option Instr) :=
  [none, some .ldDENn, some .ldIndDEA, some .incDE, some .incD, some .decD, some .ldDN, none,
   none, none, some .ldAIndDE, some .decDE, some .incE, some .decE, some .ldEN, none]

/-- Unprefixed table, high nibble 2 (R78). -/
def mapRow2 : List (Option Instr) :=
  [none, some .ldHLNn, some .ldIndHLIA, some .incHL, some .incH, some .decH, some .ldHN, none,
   none, none, some .ldAIndHLI, some .decHL, some .incL, some .decL, some .ldLN, none]

/-- Unprefixed table, high nibble 3 (R78). -/
def mapRow3 : List (Option Instr) :=
  [none, some .ldSPNn, some .ldIndHLDA, some .incSP, some .incIndHL, some .decIndHL, some .ldIndHLN, none,
   none, none, some .ldAIndHLD, some .decSP, some .incA, some .decA, some .ldAN, none]

/-- Unprefixed table, high nibble 4 (R78). -/
def mapRow4 : List (Option Instr) :=
  [some .ldBB, some .ldBC, some .ldBD, some .ldBE, some .ldBH, some .ldBL, some .ldBIndHL, some .ldBA,
   some .ldCB, some .ldCC, some .ldCD, some .ldCE, some .ldCH, some .ldCL, some .ldCIndHL, some .ldCA]

/-- Unprefixed table, high nibble 5 (R78). -/
def mapRow5 : List (Option Instr) :=
  [some .ldDB, some .ldDC, some .ldDD, some .ldDE, some .ldDH, some .ldDL, some .ldDIndHL, some .ldDA,
   some .ldEB, some .ldEC, some .ldED, some .ldEE, some .ldEH, some .ldEL, some .ldEIndHL, some .ldEA]

/-- Unprefixed table, high nibble 6 (R78). -/
def mapRow6 : List (Option Instr) :=
  [some .ldHB, some .ldHC, some .ldHD, some .ldHE, some .ldHH, some .ldHL, some .ldHIndHL, some .ldHA,
   some .ldLB, some .ldLC, some .ldLD, some .ldLE, some .ldLH, some .ldLL, some .ldLIndHL, some .ldLA]

/-- Unprefixed table, high nibble 7 (R78). -/
def mapRow7 : List (Option Instr) :=
  [some .ldIndHLB, some .ldIndHLC, some .ldIndHLD, some .ldIndHLE, some .ldIndHLH, some .ldIndHLL, none, some .ldIndHLA,
   some .ldAB, some .ldAC, some .ldAD, some .ldAE, some .ldAH, some .ldAL, some .ldAIndHL, some .ldAA]

/-- Unprefixed table, high nibble B (R78). -/
def mapRowB : List (Option Instr) :=
  [none, none, none, none, none, none, none, none,
   some .cpB, some .cpC, some .cpD, some .cpE, some .cpH, some .cpL, some .cpIndHL, some .cpA]

/-- Unprefixed table, high nibble C (R78). -/
def mapRowC : List (Option Instr) :=
  [none, none, none, none, none, some .pushBC, none, none,
   none, none, none, some .prefixCB, none, none, none, none]

/-- Unprefixed table, high nibble D (R78). -/
def mapRowD : List (Option Instr) :=
  [none, none, none, none, none, some .pushDE, none, none,
   none, none, none, none, none, none, none, none]

/-- Unprefixed table, high nibble E (R78). -/
def mapRowE : List (Option Instr) :=
  [some .ldhIndNA, none, some .ldIndCA, none, none, some .pushHL, none, none,
   none, none, some .ldIndNnA, none, none, none, none, none]

/-- Unprefixed table, high nibble F (R78). -/
def mapRowF : List (Option Instr) :=
  [some .ldhAIndN, none, some .ldAIndC, none, none, some .pushAF, none, none,
   none, some .ldSPHL, some .ldAIndNn, none, none, none, some .cpN, none]

/-- CB-prefixed table, high nibble 1 (R78). -/
def cbMapRow1 : List (Option Instr) :=
  [some .rlB, some .rlC, some .rlD, some .rlE, some .rlH, some .rlL, some .rlIndHL, some .rlA,
   none, none, none, none, none, none, none, none]

/-- CB-prefixed table, high nibble 4 (R78). -/
def cbMapRow4 : List (Option Instr) :=
  [some .bit0B, some .bit0C, some .bit0D, some .bit0E, some .bit0H, some .bit0L, some .bit0IndHL, some .bit0A,
   some .bit1B, some .bit1C, some .bit1D, some .bit1E, some .bit1H, some .bit1L, some .bit1IndHL, some .bit1A]

/-- CB-prefixed table, high nibble 5 (R78). -/
def cbMapRow5 : List (Option Instr) :=
  [some .bit2B, some .bit2C, some .bit2D, some .bit2E, some .bit2H, some .bit2L, some .bit2IndHL, some .bit2A,
   some .bit3B, some .bit3C, some .bit3D, some .bit3E, some .bit3H, some .bit3L, some .bit3IndHL, some .bit3A]

/-- CB-prefixed table, high nibble 6 (R78). -/
def cbMapRow6 : List (Option Instr) :=
  [some .bit4B, some .bit4C, some .bit4D, some .bit4E, some .bit4H, some .bit4L, some .bit4IndHL, some .bit4A,
   some .bit5B, some .bit5C, some .bit5D, some .bit5E, some .bit5H, some .bit5L, some .bit5IndHL, some .bit5A]

/-- CB-prefixed table, high nibble 7 (R78). -/
def cbMapRow7 : List (Option Instr) :=
  [some .bit6B, some .bit6C, some .bit6D, some .bit6E, some .bit6H, some .bit6L, some .bit6IndHL, some .bit6A,
   some .bit7B, some .bit7C, some .bit7D, some .bit7E, some .bit7H, some .bit7L, some .bit7IndHL, some .bit7A]

/-- The unprefixed table, by high nibble then low nibble (R78). -/
def opcodeMap : List (List (Option Instr)) :=
  [mapRow0, mapRow1, mapRow2, mapRow3, mapRow4, mapRow5, mapRow6, mapRow7,
   emptyMapRow, emptyMapRow, emptyMapRow, mapRowB, mapRowC, mapRowD, mapRowE, mapRowF]

/-- The CB-prefixed table, by high nibble then low nibble (R78). -/
def cbOpcodeMap : List (List (Option Instr)) :=
  [emptyMapRow, cbMapRow1, emptyMapRow, emptyMapRow, cbMapRow4, cbMapRow5, cbMapRow6, cbMapRow7,
   emptyMapRow, emptyMapRow, emptyMapRow, emptyMapRow, emptyMapRow, emptyMapRow, emptyMapRow, emptyMapRow]

/-- The cell of a map for an opcode byte: row by the high nibble, column by the low nibble (R78). -/
def mapCell (m : List (List (Option Instr))) (op : Byte) : Option Instr :=
  ((m[op.toNat / 16]?).bind (fun r => r[op.toNat % 16]?)).join

/-- Decoding is a total function on `(opcode, prefixed)`, "one form of rule R77, with its field values, or `none`" (R82, R98).
It reads no other state. -/
def decode (op : Byte) (prefixed : Bool) : Option Instr :=
  if prefixed then mapCell cbOpcodeMap op else mapCell opcodeMap op

/-! ## Forms and field codes -/

/-- The form and field values of each row of spec/opcode_table.json (its keys `form` and `fields`, R84). -/
def Instr.form : Instr → Form
  | .nop => .nop
  | .prefixCB => .prefixCB
  | .ldBB => .ldRegReg .b .b
  | .ldBC => .ldRegReg .b .c
  | .ldBD => .ldRegReg .b .d
  | .ldBE => .ldRegReg .b .e
  | .ldBH => .ldRegReg .b .h
  | .ldBL => .ldRegReg .b .l
  | .ldBIndHL => .ldRegIndHL .b
  | .ldBA => .ldRegReg .b .a
  | .ldCB => .ldRegReg .c .b
  | .ldCC => .ldRegReg .c .c
  | .ldCD => .ldRegReg .c .d
  | .ldCE => .ldRegReg .c .e
  | .ldCH => .ldRegReg .c .h
  | .ldCL => .ldRegReg .c .l
  | .ldCIndHL => .ldRegIndHL .c
  | .ldCA => .ldRegReg .c .a
  | .ldDB => .ldRegReg .d .b
  | .ldDC => .ldRegReg .d .c
  | .ldDD => .ldRegReg .d .d
  | .ldDE => .ldRegReg .d .e
  | .ldDH => .ldRegReg .d .h
  | .ldDL => .ldRegReg .d .l
  | .ldDIndHL => .ldRegIndHL .d
  | .ldDA => .ldRegReg .d .a
  | .ldEB => .ldRegReg .e .b
  | .ldEC => .ldRegReg .e .c
  | .ldED => .ldRegReg .e .d
  | .ldEE => .ldRegReg .e .e
  | .ldEH => .ldRegReg .e .h
  | .ldEL => .ldRegReg .e .l
  | .ldEIndHL => .ldRegIndHL .e
  | .ldEA => .ldRegReg .e .a
  | .ldHB => .ldRegReg .h .b
  | .ldHC => .ldRegReg .h .c
  | .ldHD => .ldRegReg .h .d
  | .ldHE => .ldRegReg .h .e
  | .ldHH => .ldRegReg .h .h
  | .ldHL => .ldRegReg .h .l
  | .ldHIndHL => .ldRegIndHL .h
  | .ldHA => .ldRegReg .h .a
  | .ldLB => .ldRegReg .l .b
  | .ldLC => .ldRegReg .l .c
  | .ldLD => .ldRegReg .l .d
  | .ldLE => .ldRegReg .l .e
  | .ldLH => .ldRegReg .l .h
  | .ldLL => .ldRegReg .l .l
  | .ldLIndHL => .ldRegIndHL .l
  | .ldLA => .ldRegReg .l .a
  | .ldIndHLB => .ldIndHLReg .b
  | .ldIndHLC => .ldIndHLReg .c
  | .ldIndHLD => .ldIndHLReg .d
  | .ldIndHLE => .ldIndHLReg .e
  | .ldIndHLH => .ldIndHLReg .h
  | .ldIndHLL => .ldIndHLReg .l
  | .ldIndHLA => .ldIndHLReg .a
  | .ldAB => .ldRegReg .a .b
  | .ldAC => .ldRegReg .a .c
  | .ldAD => .ldRegReg .a .d
  | .ldAE => .ldRegReg .a .e
  | .ldAH => .ldRegReg .a .h
  | .ldAL => .ldRegReg .a .l
  | .ldAIndHL => .ldRegIndHL .a
  | .ldAA => .ldRegReg .a .a
  | .ldBN => .ldRegImm .b
  | .ldCN => .ldRegImm .c
  | .ldDN => .ldRegImm .d
  | .ldEN => .ldRegImm .e
  | .ldHN => .ldRegImm .h
  | .ldLN => .ldRegImm .l
  | .ldIndHLN => .ldIndHLImm
  | .ldAN => .ldRegImm .a
  | .ldAIndBC => .ldAIndBC
  | .ldAIndDE => .ldAIndDE
  | .ldIndBCA => .ldIndBCA
  | .ldIndDEA => .ldIndDEA
  | .ldAIndHLI => .ldAIndHLI
  | .ldAIndHLD => .ldAIndHLD
  | .ldIndHLIA => .ldIndHLIA
  | .ldIndHLDA => .ldIndHLDA
  | .ldAIndNn => .ldADir
  | .ldIndNnA => .ldDirA
  | .ldhAIndN => .ldhAImm
  | .ldhIndNA => .ldhImmA
  | .ldAIndC => .ldAHighC
  | .ldIndCA => .ldHighCA
  | .ldBCNn => .ldPairImm .bc
  | .ldDENn => .ldPairImm .de
  | .ldHLNn => .ldPairImm .hl
  | .ldSPNn => .ldPairImm .sp
  | .ldSPHL => .ldSPHL
  | .ldIndNnSP => .ldDirSP
  | .cpB => .cpReg .b
  | .cpC => .cpReg .c
  | .cpD => .cpReg .d
  | .cpE => .cpReg .e
  | .cpH => .cpReg .h
  | .cpL => .cpReg .l
  | .cpIndHL => .cpIndHL
  | .cpA => .cpReg .a
  | .cpN => .cpImm
  | .incB => .incReg .b
  | .decB => .decReg .b
  | .incC => .incReg .c
  | .decC => .decReg .c
  | .incD => .incReg .d
  | .decD => .decReg .d
  | .incE => .incReg .e
  | .decE => .decReg .e
  | .incH => .incReg .h
  | .decH => .decReg .h
  | .incL => .incReg .l
  | .decL => .decReg .l
  | .incIndHL => .incIndHL
  | .decIndHL => .decIndHL
  | .incA => .incReg .a
  | .decA => .decReg .a
  | .incBC => .incPair .bc
  | .decBC => .decPair .bc
  | .incDE => .incPair .de
  | .decDE => .decPair .de
  | .incHL => .incPair .hl
  | .decHL => .decPair .hl
  | .incSP => .incPair .sp
  | .decSP => .decPair .sp
  | .pushBC => .push .bc
  | .pushDE => .push .de
  | .pushHL => .push .hl
  | .pushAF => .push .af
  | .rlB => .rlReg .b
  | .rlC => .rlReg .c
  | .rlD => .rlReg .d
  | .rlE => .rlReg .e
  | .rlH => .rlReg .h
  | .rlL => .rlReg .l
  | .rlIndHL => .rlIndHL
  | .rlA => .rlReg .a
  | .bit0B => .bitReg 0 .b
  | .bit0C => .bitReg 0 .c
  | .bit0D => .bitReg 0 .d
  | .bit0E => .bitReg 0 .e
  | .bit0H => .bitReg 0 .h
  | .bit0L => .bitReg 0 .l
  | .bit0IndHL => .bitIndHL 0
  | .bit0A => .bitReg 0 .a
  | .bit1B => .bitReg 1 .b
  | .bit1C => .bitReg 1 .c
  | .bit1D => .bitReg 1 .d
  | .bit1E => .bitReg 1 .e
  | .bit1H => .bitReg 1 .h
  | .bit1L => .bitReg 1 .l
  | .bit1IndHL => .bitIndHL 1
  | .bit1A => .bitReg 1 .a
  | .bit2B => .bitReg 2 .b
  | .bit2C => .bitReg 2 .c
  | .bit2D => .bitReg 2 .d
  | .bit2E => .bitReg 2 .e
  | .bit2H => .bitReg 2 .h
  | .bit2L => .bitReg 2 .l
  | .bit2IndHL => .bitIndHL 2
  | .bit2A => .bitReg 2 .a
  | .bit3B => .bitReg 3 .b
  | .bit3C => .bitReg 3 .c
  | .bit3D => .bitReg 3 .d
  | .bit3E => .bitReg 3 .e
  | .bit3H => .bitReg 3 .h
  | .bit3L => .bitReg 3 .l
  | .bit3IndHL => .bitIndHL 3
  | .bit3A => .bitReg 3 .a
  | .bit4B => .bitReg 4 .b
  | .bit4C => .bitReg 4 .c
  | .bit4D => .bitReg 4 .d
  | .bit4E => .bitReg 4 .e
  | .bit4H => .bitReg 4 .h
  | .bit4L => .bitReg 4 .l
  | .bit4IndHL => .bitIndHL 4
  | .bit4A => .bitReg 4 .a
  | .bit5B => .bitReg 5 .b
  | .bit5C => .bitReg 5 .c
  | .bit5D => .bitReg 5 .d
  | .bit5E => .bitReg 5 .e
  | .bit5H => .bitReg 5 .h
  | .bit5L => .bitReg 5 .l
  | .bit5IndHL => .bitIndHL 5
  | .bit5A => .bitReg 5 .a
  | .bit6B => .bitReg 6 .b
  | .bit6C => .bitReg 6 .c
  | .bit6D => .bitReg 6 .d
  | .bit6E => .bitReg 6 .e
  | .bit6H => .bitReg 6 .h
  | .bit6L => .bitReg 6 .l
  | .bit6IndHL => .bitIndHL 6
  | .bit6A => .bitReg 6 .a
  | .bit7B => .bitReg 7 .b
  | .bit7C => .bitReg 7 .c
  | .bit7D => .bitReg 7 .d
  | .bit7E => .bitReg 7 .e
  | .bit7H => .bitReg 7 .h
  | .bit7L => .bitReg 7 .l
  | .bit7IndHL => .bitIndHL 7
  | .bit7A => .bitReg 7 .a

/-! ## Assembler syntax (R83) -/

/-- Registers in upper case (R83). -/
def Reg8.name : Reg8 → String
  | .b => "B" | .c => "C" | .d => "D" | .e => "E" | .h => "H" | .l => "L" | .a => "A"

/-- The pairs of LD rr,nn, INC rr and DEC rr (R83). -/
def PairRR.name : PairRR → String
  | .bc => "BC" | .de => "DE" | .hl => "HL" | .sp => "SP"

/-- The pairs of PUSH qq (R83). -/
def PairQQ.name : PairQQ → String
  | .bc => "BC" | .de => "DE" | .hl => "HL" | .af => "AF"

/-- A bit index as a digit. -/
def bitName (b : Fin 8) : String := (["0", "1", "2", "3", "4", "5", "6", "7"][b.val]?).getD ""

/-- A form written in the SM83 syntax, destination first, memory operands in parentheses, an immediate as n or nn (R83). -/
def Form.syntaxText : Form → String
  | .nop => "NOP"
  | .prefixCB => "PREFIX CB"
  | .ldRegReg dst src => "LD " ++ dst.name ++ "," ++ src.name
  | .ldRegImm dst => "LD " ++ dst.name ++ ",n"
  | .ldRegIndHL dst => "LD " ++ dst.name ++ ",(HL)"
  | .ldIndHLReg src => "LD (HL)," ++ src.name
  | .ldIndHLImm => "LD (HL),n"
  | .ldAIndBC => "LD A,(BC)"
  | .ldAIndDE => "LD A,(DE)"
  | .ldIndBCA => "LD (BC),A"
  | .ldIndDEA => "LD (DE),A"
  | .ldAIndHLI => "LD A,(HL+)"
  | .ldAIndHLD => "LD A,(HL-)"
  | .ldIndHLIA => "LD (HL+),A"
  | .ldIndHLDA => "LD (HL-),A"
  | .ldADir => "LD A,(nn)"
  | .ldDirA => "LD (nn),A"
  | .ldhAImm => "LDH A,(n)"
  | .ldhImmA => "LDH (n),A"
  | .ldAHighC => "LD A,(C)"
  | .ldHighCA => "LD (C),A"
  | .ldPairImm rr => "LD " ++ rr.name ++ ",nn"
  | .ldSPHL => "LD SP,HL"
  | .ldDirSP => "LD (nn),SP"
  | .cpReg src => "CP " ++ src.name
  | .cpIndHL => "CP (HL)"
  | .cpImm => "CP n"
  | .incReg dst => "INC " ++ dst.name
  | .incIndHL => "INC (HL)"
  | .decReg dst => "DEC " ++ dst.name
  | .decIndHL => "DEC (HL)"
  | .incPair rr => "INC " ++ rr.name
  | .decPair rr => "DEC " ++ rr.name
  | .rlReg src => "RL " ++ src.name
  | .rlIndHL => "RL (HL)"
  | .bitReg b src => "BIT " ++ bitName b ++ "," ++ src.name
  | .bitIndHL b => "BIT " ++ bitName b ++ ",(HL)"
  | .push qq => "PUSH " ++ qq.name

/-- An instruction in the SM83 syntax (R83). -/
def Instr.syntaxText (i : Instr) : String := i.form.syntaxText

/-- The 3-bit code of an 8-bit register (R72). Code 6 is `indHLCode`. -/
def Reg8.code : Reg8 → BitVec 3
  | .b => 0 | .c => 1 | .d => 2 | .e => 3 | .h => 4 | .l => 5 | .a => 7

/-- Code 6 of the register field selects the operand `(HL)` (R72). -/
def indHLCode : BitVec 3 := 6

/-- The 2-bit pair code of LD rr,nn, INC rr and DEC rr (R73). -/
def PairRR.code : PairRR → BitVec 2
  | .bc => 0 | .de => 1 | .hl => 2 | .sp => 3

/-- The 2-bit pair code of PUSH qq (R73). -/
def PairQQ.code : PairQQ → BitVec 2
  | .bc => 0 | .de => 1 | .hl => 2 | .af => 3

/-- The 3-bit index field `bbb` of BIT (R74). -/
def bitCode (b : Fin 8) : BitVec 3 := BitVec.ofNat 3 b.val

/-- The opcode byte `x y z` of R71 from its fields x = op[7:6], y = op[5:3], z = op[2:0]. -/
def opXYZ (x : BitVec 2) (y z : BitVec 3) : Byte := x ++ y ++ z

/-- The opcode byte `x p q` of the pair forms: x = op[7:6], p = op[5:4], then the form's fixed low four bits (R71, R77). -/
def opXP (x p : BitVec 2) (q : BitVec 4) : Byte := x ++ p ++ q

/-- Whether a form stands in the CB-prefixed table (R77, R81). -/
def Form.prefixed : Form → Bool
  | .rlReg _ | .rlIndHL | .bitReg _ _ | .bitIndHL _ => true
  | .nop | .prefixCB | .ldRegReg _ _ | .ldRegImm _ | .ldRegIndHL _ | .ldIndHLReg _ | .ldIndHLImm | .ldAIndBC | .ldAIndDE
  | .ldIndBCA | .ldIndDEA | .ldAIndHLI | .ldAIndHLD | .ldIndHLIA | .ldIndHLDA | .ldADir | .ldDirA | .ldhAImm | .ldhImmA
  | .ldAHighC | .ldHighCA | .ldPairImm _ | .ldSPHL | .ldDirSP | .cpReg _ | .cpIndHL | .cpImm | .incReg _ | .incIndHL
  | .decReg _ | .decIndHL | .incPair _ | .decPair _ | .push _ => false

/-- The opcode byte of each form by the patterns of R77: for a CB-table form the cb-opcode, the byte after 0xCB. -/
def Form.opcode : Form → Byte
  | .nop => 0x00
  | .prefixCB => 0xCB
  | .ldRegReg dst src => opXYZ 0b01 dst.code src.code
  | .ldRegImm dst => opXYZ 0b00 dst.code 0b110
  | .ldRegIndHL dst => opXYZ 0b01 dst.code indHLCode
  | .ldIndHLReg src => opXYZ 0b01 indHLCode src.code
  | .ldIndHLImm => 0x36
  | .ldAIndBC => 0x0A
  | .ldAIndDE => 0x1A
  | .ldIndBCA => 0x02
  | .ldIndDEA => 0x12
  | .ldAIndHLI => 0x2A
  | .ldAIndHLD => 0x3A
  | .ldIndHLIA => 0x22
  | .ldIndHLDA => 0x32
  | .ldADir => 0xFA
  | .ldDirA => 0xEA
  | .ldhAImm => 0xF0
  | .ldhImmA => 0xE0
  | .ldAHighC => 0xF2
  | .ldHighCA => 0xE2
  | .ldPairImm rr => opXP 0b00 rr.code 0b0001
  | .ldSPHL => 0xF9
  | .ldDirSP => 0x08
  | .cpReg src => opXYZ 0b10 0b111 src.code
  | .cpIndHL => 0xBE
  | .cpImm => 0xFE
  | .incReg dst => opXYZ 0b00 dst.code 0b100
  | .incIndHL => 0x34
  | .decReg dst => opXYZ 0b00 dst.code 0b101
  | .decIndHL => 0x35
  | .incPair rr => opXP 0b00 rr.code 0b0011
  | .decPair rr => opXP 0b00 rr.code 0b1011
  | .rlReg src => opXYZ 0b00 0b010 src.code
  | .rlIndHL => 0x16
  | .bitReg b src => opXYZ 0b01 (bitCode b) src.code
  | .bitIndHL b => opXYZ 0b01 (bitCode b) indHLCode
  | .push qq => opXP 0b11 qq.code 0b0101

/-- Whether an instruction stands in the CB-prefixed table (R77). -/
def Instr.prefixed (i : Instr) : Bool := i.form.prefixed

/-- The opcode byte of an instruction (R77). -/
def Instr.opcode (i : Instr) : Byte := i.form.opcode

/-- The pair the dispatcher looks up for an instruction. -/
def encodeOp (i : Instr) : Byte × Bool := (i.opcode, i.prefixed)

/-! ## Whole instructions in memory (R70, R76) -/

/-- How many immediate bytes a form reads: two for the 3-byte rows, one for the OPC_N rows, none for the others (R76). -/
def Form.immCount : Form → Nat
  | .ldPairImm _ | .ldDirSP | .ldDirA | .ldADir => 2
  | .ldRegImm _ | .ldIndHLImm | .ldhAImm | .ldhImmA | .cpImm => 1
  | .nop | .prefixCB | .ldRegReg _ _ | .ldRegIndHL _ | .ldIndHLReg _ | .ldAIndBC | .ldAIndDE | .ldIndBCA | .ldIndDEA
  | .ldAIndHLI | .ldAIndHLD | .ldIndHLIA | .ldIndHLDA | .ldAHighC | .ldHighCA | .ldSPHL | .cpReg _ | .cpIndHL
  | .incReg _ | .incIndHL | .decReg _ | .decIndHL | .incPair _ | .decPair _
  | .rlReg _ | .rlIndHL | .bitReg _ _ | .bitIndHL _ | .push _ => 0

/-- How many immediate bytes follow an instruction's opcode (R76). -/
def Instr.immCount (i : Instr) : Nat := i.form.immCount

/-- The length of a whole instruction in bytes: its opcode, the prefix byte if it is a CB-table instruction, and its
immediate bytes (R70, R76). -/
def Instr.length (i : Instr) : Nat := (if i.prefixed then 2 else 1) + i.immCount

/-- The prefix byte (R81). -/
def cbPrefixByte : Byte := 0xCB

/-- Why bytes are no whole instruction. -/
inductive DecodeError where
  /-- There is no byte to read. -/
  | empty
  /-- The opcode has no handler in the unprefixed map (R79). -/
  | unmappedOpcode (opcode : Byte)
  /-- The cb-opcode has no handler in the CB-prefixed map (R79, R81). -/
  | unmappedCbOpcode (opcode : Byte)
  /-- The bytes end before the instruction does (R76). -/
  | truncated
deriving DecidableEq, Repr

/-- Take the immediate bytes an instruction reads, or reject (R76). -/
def takeImm (i : Instr) (rest : List Byte) : Except DecodeError (Code × List Byte) :=
  if rest.length < i.immCount then .error .truncated
  else .ok ({ instr := i, imm := rest.take i.immCount }, rest.drop i.immCount)

/-- Read one whole instruction from consecutive bytes and answer it with the bytes after it (R70, R81). -/
def decodeBytes : List Byte → Except DecodeError (Code × List Byte)
  | [] => .error .empty
  | op :: rest =>
    match decode op false with
    | none => .error (.unmappedOpcode op)
    | some .prefixCB =>
      match rest with
      | [] => .error .truncated
      | cb :: rest' =>
        match decode cb true with
        | none => .error (.unmappedCbOpcode cb)
        | some i => takeImm i rest'
    | some i => takeImm i rest

/-- The bytes of a whole instruction, lowest address first (R70). -/
def encode (c : Code) : List Byte :=
  (if c.instr.prefixed then [cbPrefixByte, c.instr.opcode] else [c.instr.opcode]) ++ c.imm

/-! ## The table's word numbering -/

/-- Whether a word of the opcode table is a 16-bit CB row, which the table numbers `0xCBxx`: prefix in bits 15:8,
cb-opcode in bits 7:0 (R82, R84; log entry 6). -/
def tableCbRow (nbits w : Nat) : Bool := nbits == 16 && w / 256 == 0xCB

/-- The bytes of an instruction given as a number, lowest address first, as the hardware stores them: three bytes, the
longest instruction (R70); the bits above `nbits` are 0. A CB row's number has its first byte on top (log entry 6);
every other number has its first byte in bits 7:0. -/
def tableBytes (nbits w : Nat) : List Byte :=
  let v := w % 2 ^ nbits
  if tableCbRow nbits v then [BitVec.ofNat 8 (v / 256), BitVec.ofNat 8 v, 0]
  else [BitVec.ofNat 8 v, BitVec.ofNat 8 (v / 256), BitVec.ofNat 8 (v / 65536)]

/-- What the latch `(opcode, prefixed)` holds when the instruction that begins these bytes is about to run its row c0: the
first byte, or the cb-opcode when the number is longer than the prefix byte 0xCB alone (R81, R112). -/
def tableLatch (nbits w : Nat) : Byte × Bool :=
  match tableBytes nbits w with
  | op :: cb :: _ => if op == cbPrefixByte && 8 < nbits then (cb, true) else (op, false)
  | _ => (0, false)

/-- The instruction the decoder reads from an instruction of the opcode table given as a number (log entry 6). -/
def decodeTableWord (nbits w : Nat) : Option Instr :=
  decode (tableLatch nbits w).1 (tableLatch nbits w).2

end Sys2Proof
end

