-- ==== Sys2Proof/Config.lean ====
section
/-!
DEFINITION. What is fixed for the machine from outside it: the parameter `BOOT_REGS` (00_scope.md R10) and what
the flat RAM behind the bus holds where nothing was written (20_memory.md R51, 92_eei_decisions.md D16).
The other parameter, `BUS`, is plain data in State (`Bus.answers`), so that every state stands for one behaviour of the bus.
No value of this spec is left to an opaque constant: 60_exceptions.md R223 makes every operation total.
-/

namespace Sys2Proof

/-- `BOOT_REGS`: the ten register values installed at reset (00_scope.md R10, 70_reset_and_hazards.md R250). -/
structure BootRegs where
  a : Byte
  f : Byte
  b : Byte
  c : Byte
  d : Byte
  e : Byte
  h : Byte
  l : Byte
  sp : Word
  pc : Word
deriving DecidableEq, Repr

/-- The default of the parameter `BOOT_REGS`: absent (00_scope.md R10). -/
def Config.bootRegs : Option BootRegs := none

/-- The profile the DMG boot ROM leaves, "offered as an example and not a default" (70_reset_and_hazards.md R252). -/
def Config.dmgProfile : BootRegs :=
  { a := 0x01, f := 0xB0, b := 0x00, c := 0x13, d := 0x00, e := 0xD8, h := 0x01, l := 0x4D, sp := 0xFFFE, pc := 0x0100 }

/-- What an address of the flat RAM reads as when nothing was written there.
DESIGN CHOICE, unsafe (log entry 2): D16 gives 0x00 for the test vectors only. -/
def Config.ramInit : Byte := 0x00

end Sys2Proof
end

