-- ==== Sys2Proof/Machine/State.lean ====
section
/-!
DEFINITION. The state of the machine as plain data (10_state.md): the register file, the execution context and the fault latch,
which are the core's own, and beside them the external bus the core is lent (20_memory.md R50 to R52): a flat RAM, the answers
the bus will give, and the record of the bus events.
-/

namespace Sys2Proof.Machine

/-- The register file (10_state.md R21 to R24). The composite views af, bc, de, hl are not stored (R25). -/
structure Regs where
  a : Byte
  /-- The flag byte: Z, N, H, C in bits 7, 6, 5, 4; bits 3:0 are 0 in every reachable state (R27, R30). -/
  f : Byte
  b : Byte
  c : Byte
  d : Byte
  e : Byte
  h : Byte
  l : Byte
  sp : Word
  pc : Word
deriving DecidableEq, Repr

/-- The execution context (10_state.md R32 to R36). -/
structure Ctx where
  /-- The opcode latch: "the byte last fetched" (R32). -/
  opcode : Byte
  /-- Whether the latched opcode belongs to the CB-prefixed table (R33). -/
  prefixed : Bool
  /-- The 0-based index of the current M-cycle within the latched instruction; legal values 0 to 4 (R34). -/
  step : Nat
  scratch8 : Byte
  scratch16 : Word
deriving DecidableEq, Repr

/-- What the fault latch records (10_state.md R38, 60_exceptions.md R222). -/
structure FaultRecord where
  prefixed : Bool
  opcode : Byte
  /-- Register pc in the cycle of the fault: the address of the byte after the offending opcode byte (R222). -/
  pc : Word
deriving DecidableEq, Repr

/-- The two bus operations (20_memory.md R50). -/
inductive BusKind where
  | read | write
deriving DecidableEq, Repr

/-- One bus event (20_memory.md R52). -/
structure BusEvent where
  kind : BusKind
  address : Word
  data : Byte
deriving DecidableEq, Repr

/-- The flat RAM behind the bus (20_memory.md R51, R53): address and byte pairs in the canonical form of `Memory.wf`. -/
abbrev Memory := List Host.Cell

/-- The external bus, the parameter `BUS` (20_memory.md R51). -/
structure Bus where
  /-- The flat 65536-byte RAM of the test vectors. -/
  ram : Memory
  /-- The model's own field: what the bus will answer to the coming reads, in order. `some v` is an answer the RAM does not
  determine (a device's, or a byte changed from outside); `none`, and every read after the list's end, is answered by the RAM.
  Every behaviour of `BUS` over any number of cycles is that of some list (log entry 1). -/
  answers : List (Option Byte)
  /-- The bus events so far, oldest first (R52; log entry 9). -/
  events : List BusEvent
deriving DecidableEq, Repr

/-- The whole state. -/
structure State where
  regs : Regs
  ctx : Ctx
  /-- The fault latch (10_state.md R38). -/
  fault : Option FaultRecord
  bus : Bus
deriving DecidableEq, Repr

/-- Why the machine stops with a fault. -/
inductive Fault where
  /-- The latched fatal fault: raised by `step` from every state whose fault latch is set (60_exceptions.md R221, U8). The record
  is the latch. Safe: nothing is proved through it. The cycle that sets the latch is a next state (log entry 4). -/
  | fatalFault (record : FaultRecord)
deriving DecidableEq, Repr

/-- Why the model gives a state or an instruction no meaning. -/
inductive Refusal where
  /-- An instruction with no meaning yet, by its mnemonic: only in a refused arm of `exec`; no arm is refused. Safe. -/
  | notModelled (mnemonic : String)
  /-- `ctx.step` is at or above the latched form's row count: raised by every cycle table (`runRow`). "Unreachable from reset,
  and a model should refuse it" (40_sequencer.md R99, 93_implementation_defined.md U6; log entry 7). Safe. -/
  | stepPastLastRow
  /-- Register f has a nonzero low nibble: raised by `advanceOneCycle`. "A model state with a nonzero low nibble is unreachable;
  a model should `refuse` it" (93_implementation_defined.md U2; log entry 8). Safe. -/
  | flagLowNibbleSet
deriving DecidableEq, Repr

/-- The register file after reset: zero, or `BOOT_REGS` with f masked (10_state.md R42, 70_reset_and_hazards.md R250). -/
def Regs.reset : Option BootRegs → Regs
  | none => { a := 0, f := 0, b := 0, c := 0, d := 0, e := 0, h := 0, l := 0, sp := 0, pc := 0 }
  | some r =>
    { a := r.a, f := r.f &&& 0xF0, b := r.b, c := r.c, d := r.d, e := r.e, h := r.h, l := r.l, sp := r.sp, pc := r.pc }

/-- The execution context after reset: NOP latched, step 0, scratch 0 (10_state.md R42). -/
def Ctx.reset : Ctx :=
  { opcode := 0x00, prefixed := false, step := 0, scratch8 := 0x00, scratch16 := 0x0000 }

/-- The bus with nothing listed in RAM, no scripted answer and no event yet. -/
def Bus.empty : Bus := { ram := [], answers := [], events := [] }

/-- Reset of the core with a given `BOOT_REGS` and the bus as it stands: "Reset makes no bus access"
(70_reset_and_hazards.md R250). -/
def State.resetOn (boot : Option BootRegs) (bus : Bus) : State :=
  { regs := Regs.reset boot, ctx := Ctx.reset, fault := none, bus := bus }

/-- The machine right after reset, with `BOOT_REGS` at its default and nothing placed in memory. -/
def State.reset : State := State.resetOn Config.bootRegs Bus.empty

end Sys2Proof.Machine
end

