-- ==== Sys2Proof/Machine/Memory.lean ====
section
/-!
DEFINITION. The flat RAM: reading and writing one byte, and its canonical form (20_memory.md R51, R53).
-/

namespace Sys2Proof.Machine

/-- The byte listed for an address, if any. -/
def Memory.find : Memory → Nat → Option Byte
  | [], _ => none
  | (k, v) :: rest, a => if k = a then some v else Memory.find rest a

/-- The byte an address of the RAM reads as. -/
def Memory.read (m : Memory) (a : Word) : Byte := (Memory.find m a.toNat).getD Config.ramInit

/-- List a byte at an address in canonical form: in order, and not at all when it is what an unlisted address reads as. -/
def Memory.put : Memory → Nat → Byte → Memory
  | [], a, v => if v = Config.ramInit then [] else [(a, v)]
  | (k, w) :: rest, a, v =>
    if a < k then (if v = Config.ramInit then (k, w) :: rest else (a, v) :: (k, w) :: rest)
    else if a = k then (if v = Config.ramInit then rest else (a, v) :: rest)
    else (k, w) :: Memory.put rest a v

/-- Write one byte of the RAM. -/
def Memory.write (m : Memory) (a : Word) (v : Byte) : Memory := Memory.put m a.toNat v

/-- The canonical form from an address up: addresses strictly rising and inside the 65536-byte space (R53), no entry equal to
what an unlisted address reads as. -/
def Memory.wfFrom : Nat → Memory → Bool
  | _, [] => true
  | low, (k, v) :: rest =>
    decide (low ≤ k) && decide (k < 65536) && decide (v ≠ Config.ramInit) && Memory.wfFrom (k + 1) rest

/-- The canonical form of the RAM. -/
def Memory.wf (m : Memory) : Bool := Memory.wfFrom 0 m

end Sys2Proof.Machine
end

