-- ==== Sys2Proof/Machine/Ops.lean ====
section
/-!
DEFINITION. The named operations every cycle table is written in: register reads and writes, the two bus operations, FETCH and
the PREFIX CB read, the step advance, the selection of a row, raising FatalFault, reset, and the host's view of a state.
-/

namespace Sys2Proof.Machine

/-! ## Halves and pairs (00_scope.md R11) -/

/-- v[15:8]. -/
def hiByte (v : Word) : Byte := v.extractLsb' 8 8

/-- v[7:0]. -/
def loByte (v : Word) : Byte := v.extractLsb' 0 8

/-- The concatenation of two bytes, the first as the more significant part: `(hi << 8) | lo` (R11, 10_state.md R25). -/
def pairOf (hi lo : Byte) : Word := hi.zeroExtend 16 <<< 8 ||| lo.zeroExtend 16

/-- The high-page address `0xFF00 | zext_16(x)` (30_encoding.md R75). -/
def highPage (x : Byte) : Word := 0xFF00 ||| x.zeroExtend 16

/-! ## Registers (00_scope.md R13, 10_state.md R21 to R26) -/

/-- x[r] for an 8-bit register field. -/
def Regs.get8 (g : Regs) : Reg8 → Byte
  | .b => g.b | .c => g.c | .d => g.d | .e => g.e | .h => g.h | .l => g.l | .a => g.a

/-- x[r] <- v for an 8-bit register field. -/
def Regs.set8 (g : Regs) (r : Reg8) (v : Byte) : Regs :=
  match r with
  | .b => { g with b := v }
  | .c => { g with c := v }
  | .d => { g with d := v }
  | .e => { g with e := v }
  | .h => { g with h := v }
  | .l => { g with l := v }
  | .a => { g with a := v }

/-- The composite views, and sp (R25). -/
def Regs.get16 (g : Regs) : Reg16 → Word
  | .bc => pairOf g.b g.c
  | .de => pairOf g.d g.e
  | .hl => pairOf g.h g.l
  | .af => pairOf g.a g.f
  | .sp => g.sp

/-- A 16-bit write: both halves in one micro-operation, or sp directly (R26). No rule in scope writes af. -/
def Regs.set16 (g : Regs) (r : Reg16) (v : Word) : Regs :=
  match r with
  | .bc => { g with b := hiByte v, c := loByte v }
  | .de => { g with d := hiByte v, e := loByte v }
  | .hl => { g with h := hiByte v, l := loByte v }
  | .af => { g with a := hiByte v, f := loByte v }
  | .sp => { g with sp := v }

/-- The 16-bit register a pair field of LD rr,nn, INC rr or DEC rr names (30_encoding.md R73). -/
def pairReg : PairRR → Reg16
  | .bc => .bc | .de => .de | .hl => .hl | .sp => .sp

/-- The 16-bit register a pair field of PUSH qq names (30_encoding.md R73). -/
def pushReg : PairQQ → Reg16
  | .bc => .bc | .de => .de | .hl => .hl | .af => .af

/-- The 16-bit register that holds a register-pair-indirect address (40_sequencer.md R100). -/
def indReg : IndPair → Reg16
  | .bc => .bc | .de => .de | .hl => .hl

def State.get8 (s : State) (r : Reg8) : Byte := s.regs.get8 r
def State.set8 (s : State) (r : Reg8) (v : Byte) : State := { s with regs := s.regs.set8 r v }
def State.get16 (s : State) (r : Reg16) : Word := s.regs.get16 r
def State.set16 (s : State) (r : Reg16) (v : Word) : State := { s with regs := s.regs.set16 r v }
def State.setF (s : State) (v : Byte) : State := { s with regs := { s.regs with f := v } }
def State.setPc (s : State) (v : Word) : State := { s with regs := { s.regs with pc := v } }
def State.setScratch8 (s : State) (v : Byte) : State := { s with ctx := { s.ctx with scratch8 := v } }
def State.setScratch16 (s : State) (v : Word) : State := { s with ctx := { s.ctx with scratch16 := v } }

/-- The register view hl, the address of every `(HL)` operand. -/
def State.hl (s : State) : Word := s.get16 .hl

/-! ## The bus (20_memory.md R50 to R52) -/

/-- The byte the bus answers to a read of an address now (R51): the next scripted answer if it holds one, else the RAM's byte. -/
def State.busAnswer (s : State) (a : Word) : Byte :=
  match s.bus.answers with
  | some v :: _ => v
  | _ => s.bus.ram.read a

/-- The state after `MemRead(a, 1)`: one scripted answer is used up and the event is recorded (R52). Its value is `busAnswer`. -/
def State.afterRead (s : State) (a : Word) : State :=
  { s with bus := { s.bus with
      answers := s.bus.answers.tail
      events := s.bus.events ++ [{ kind := .read, address := a, data := s.busAnswer a }] } }

/-- `MemWrite(a, 1, v)`: it always completes (R50); the RAM takes the byte and the event is recorded (R52). -/
def State.busWrite (s : State) (a : Word) (v : Byte) : State :=
  { s with bus := { s.bus with
      ram := s.bus.ram.write a v
      events := s.bus.events ++ [{ kind := .write, address := a, data := v }] } }

/-! ## Rows of a cycle table (00_scope.md R16) -/

/-- One row of a cycle table: what the core does in one M-cycle. -/
abbrev Row := State → State

/-- The end of every row that is not the last: `ctx.step <- ctx.step + 1` (10_state.md R34). -/
def State.advance (s : State) : State := { s with ctx := { s.ctx with step := s.ctx.step + 1 } }

/-- FETCH (40_sequencer.md R94): read the next opcode at pc, advance pc, reset the cursor. -/
def State.fetch (s : State) : State :=
  let t := s.afterRead s.regs.pc
  { t with
    regs := { t.regs with pc := s.regs.pc + 1 }
    ctx := { opcode := s.busAnswer s.regs.pc, prefixed := false, step := 0, scratch8 := 0x00, scratch16 := 0x0000 } }

/-- Row c0 of PREFIX CB (40_sequencer.md R112): latch the cb-opcode with `prefixed` true; scratch is left as it is. -/
def State.latchCb (s : State) : State :=
  let t := s.afterRead s.regs.pc
  { t with
    regs := { t.regs with pc := s.regs.pc + 1 }
    ctx := { t.ctx with opcode := s.busAnswer s.regs.pc, prefixed := true, step := 0 } }

/-- Perform row c<ctx.step> of a cycle table; a step past the last row is refused (40_sequencer.md R92, R99). -/
def runRow (table : List Row) (s : State) : Host.Outcome State Fault Refusal :=
  match table[s.ctx.step]? with
  | some row => .next (row s)
  | none => .refused .stepPastLastRow

/-! ## The fatal fault (60_exceptions.md) -/

/-- The causes of a FatalFault: one (R220). -/
inductive FaultCause where
  | unmappedOpcode
deriving DecidableEq, Repr

/-- "one cause, `UnmappedOpcode`, which this spec numbers cause code 1" (R220). -/
def FaultCause.code : FaultCause → Nat
  | .unmappedOpcode => 1

/-- The cause of every fault record (R220): the latch holds no cause field, because there is one cause. -/
def FaultRecord.cause (_ : FaultRecord) : FaultCause := .unmappedOpcode

/-- Taking the exception: the latch gets `{prefixed, opcode, pc}` and nothing else changes (R220, R226). There is no return
from it: only reset clears the latch (R227). -/
def State.raiseFatalFault (s : State) : State :=
  { s with fault := some { prefixed := s.ctx.prefixed, opcode := s.ctx.opcode, pc := s.regs.pc } }

/-! ## Reset and the host's view -/

/-- Reset of a running or faulted machine: every piece of core state to its reset value, the bus untouched
(70_reset_and_hazards.md R250; 60_exceptions.md R221, R227). -/
def State.resetCore (boot : Option BootRegs) (s : State) : State := State.resetOn boot s.bus

/-- `snapshot_registers()`: a copy of the ten registers (10_state.md R41). -/
def snapshotRegisters (s : State) : Regs := s.regs

/-- What one call of `advance_one_cycle` returns (40_sequencer.md R91). -/
inductive CycleResult where
  | ok
  | fault (record : FaultRecord)
deriving DecidableEq, Repr

/-- The value the call with this outcome returns: `Fault` in the cycle that sets the latch and in every later one, else `Ok`
(R91). A refusal is no behaviour of the hardware and returns nothing. -/
def returnedResult : Host.Outcome State Fault Refusal → Option CycleResult
  | .next t => match t.fault with
    | none => some .ok
    | some r => some (.fault r)
  | .fault (.fatalFault r) => some (.fault r)
  | .refused _ => none

/-! ## Placing one instruction -/

/-- Bytes written to consecutive addresses of the RAM from an address up, wrapping (R59). -/
def Memory.writeBytes (m : Memory) (a : Word) : List Byte → Memory
  | [] => m
  | v :: rest => Memory.writeBytes (Memory.write m a v) (a + 1) rest

/-- The state in which an instruction, given as a number of the opcode table, stands at pc in the RAM and has been fetched: its
bytes are in the RAM from pc up, its opcode is in the latch as FETCH (and PREFIX CB's read) leaves it, with the cursor at row
c0 and pc after the bytes read so far; no fault is latched and no scripted answer stands before the RAM (log entry 5). -/
def State.placeWord (s : State) (nbits w : Nat) : State :=
  let latch := tableLatch nbits w
  { regs := { s.regs with pc := s.regs.pc + (if latch.2 then 2 else 1) }
    ctx := { opcode := latch.1, prefixed := latch.2, step := 0, scratch8 := 0x00, scratch16 := 0x0000 }
    fault := none
    bus := { s.bus with ram := Memory.writeBytes s.bus.ram s.regs.pc (tableBytes nbits w), answers := [] } }

end Sys2Proof.Machine
end

