-- ==== Sys2Proof/Machine/Flags.lean ====
section
/-!
DEFINITION. The flag byte's accessors (10_state.md R27 to R29) and every flag computation of the spec: compare
(43_compare.md R160), 8-bit increment and decrement (44_incdec.md R168, R169), rotate and bit test
(45_cb_rotate_bit.md R188, R189). A flag function takes the current f and answers the new one.
-/

namespace Sys2Proof.Machine

/-- The four flags (R27). -/
inductive Flag where
  | z | n | h | c
deriving DecidableEq, Repr

/-- The bit of f that holds a flag (R27). -/
def Flag.bit : Flag → Nat
  | .z => 7 | .n => 6 | .h => 5 | .c => 4

/-- The flag getter: one bit of f (R28). -/
def getFlag (x : Flag) (f : Byte) : Bool := f.getLsbD x.bit

/-- The flag setter: "a masked OR/AND, never a plain assignment" (R29). -/
def setFlag (x : Flag) (v : Bool) (f : Byte) : Byte :=
  if v then f ||| ((1 : Byte) <<< x.bit) else f &&& ~~~((1 : Byte) <<< x.bit)

/-- `cp_flags(av, s)` (R160). -/
def cpFlags (av s f : Byte) : Byte :=
  let t := av - s
  setFlag .c (decide (av.toNat < s.toNat))
    (setFlag .h (decide ((av &&& 0x0F).toNat < (s &&& 0x0F).toNat))
      (setFlag .n true
        (setFlag .z (t == 0) f)))

/-- The result of `inc8(v)` (R168). -/
def inc8 (v : Byte) : Byte := v + 1

/-- The flags of `inc8(v)`; C is not written (R168). -/
def inc8Flags (v f : Byte) : Byte :=
  setFlag .h (v &&& 0x0F == 0x0F) (setFlag .n false (setFlag .z (inc8 v == 0) f))

/-- The result of `dec8(v)` (R169). -/
def dec8 (v : Byte) : Byte := v - 1

/-- The flags of `dec8(v)`; C is not written (R169). -/
def dec8Flags (v f : Byte) : Byte :=
  setFlag .h (v &&& 0x0F == 0x00) (setFlag .n true (setFlag .z (dec8 v == 0) f))

/-- The result of `rl8(v)`; the carry is read from f before any flag is written (R188). -/
def rl8 (v f : Byte) : Byte := (v <<< 1) ||| (if getFlag .c f then 1 else 0)

/-- The flags of `rl8(v)` (R188). -/
def rl8Flags (v f : Byte) : Byte :=
  let res := rl8 v f
  setFlag .h false (setFlag .n false (setFlag .z (res == 0) (setFlag .c (v.getLsbD 7) f)))

/-- `bit_test(b, v)`: Z is set iff the tested bit is 0; C is not written (R189). -/
def bitTestFlags (b : Fin 8) (v f : Byte) : Byte :=
  setFlag .h true (setFlag .n false (setFlag .z (!v.getLsbD b.val) f))

/-- The flag byte without its reserved low nibble set (R27, R30): the condition a reachable f meets. -/
def flagLowNibbleClear (f : Byte) : Bool := f &&& 0x0F == 0

/-! ## The same on a state -/

/-- `cp_flags(a, v)` on register f. -/
def State.compareA (s : State) (v : Byte) : State := s.setF (cpFlags s.regs.a v s.regs.f)

/-- `x[r] <- inc8(x[r])`. -/
def State.incReg8 (s : State) (r : Reg8) : State :=
  (s.setF (inc8Flags (s.get8 r) s.regs.f)).set8 r (inc8 (s.get8 r))

/-- `x[r] <- dec8(x[r])`. -/
def State.decReg8 (s : State) (r : Reg8) : State :=
  (s.setF (dec8Flags (s.get8 r) s.regs.f)).set8 r (dec8 (s.get8 r))

/-- `x[r] <- rl8(x[r])`. -/
def State.rlReg8 (s : State) (r : Reg8) : State :=
  (s.setF (rl8Flags (s.get8 r) s.regs.f)).set8 r (rl8 (s.get8 r) s.regs.f)

/-- `scratch8 <- inc8(scratch8)`. -/
def State.incScratch8 (s : State) : State :=
  (s.setF (inc8Flags s.ctx.scratch8 s.regs.f)).setScratch8 (inc8 s.ctx.scratch8)

/-- `scratch8 <- dec8(scratch8)`. -/
def State.decScratch8 (s : State) : State :=
  (s.setF (dec8Flags s.ctx.scratch8 s.regs.f)).setScratch8 (dec8 s.ctx.scratch8)

/-- `scratch8 <- rl8(scratch8)`. -/
def State.rlScratch8 (s : State) : State :=
  (s.setF (rl8Flags s.ctx.scratch8 s.regs.f)).setScratch8 (rl8 s.ctx.scratch8 s.regs.f)

/-- `bit_test(b, v)` on register f. -/
def State.bitTest (s : State) (b : Fin 8) (v : Byte) : State := s.setF (bitTestFlags b v s.regs.f)

end Sys2Proof.Machine
end

