-- ==== Sys2Proof/Machine/Operands.lean ====
section
/-!
DEFINITION. The operand resolver (40_sequencer.md R100 to R104): the operand descriptors, split by width and direction so that a
descriptor without a read path or a write path cannot stand where it has none, and for each the rows its read or write occupies.
A row that issues an operand's access does nothing else for it; the value is usable from the next row on (R104).
-/

namespace Sys2Proof.Machine

/-! ## Single rows -/

/-- `scratch8 <- MemRead(a, 1)`. -/
def State.loadScratch8 (s : State) (a : Word) : State := (s.afterRead a).setScratch8 (s.busAnswer a)

/-- `scratch8 <- MemRead(pc, 1); pc <- pc + 1`: the IMM8 row. -/
def readImm8 : Row := fun s => ((s.loadScratch8 s.regs.pc).setPc (s.regs.pc + 1)).advance

/-- `scratch16[7:0] <- MemRead(pc, 1); pc <- pc + 1`: the first IMM16 row. The low byte comes first (20_memory.md R55). -/
def readImmLo : Row := fun s =>
  (((s.afterRead s.regs.pc).setScratch16 (pairOf (hiByte s.ctx.scratch16) (s.busAnswer s.regs.pc))).setPc
    (s.regs.pc + 1)).advance

/-- `scratch16[15:8] <- MemRead(pc, 1); pc <- pc + 1`: the second IMM16 row. -/
def readImmHi : Row := fun s =>
  (((s.afterRead s.regs.pc).setScratch16 (pairOf (s.busAnswer s.regs.pc) (loByte s.ctx.scratch16))).setPc
    (s.regs.pc + 1)).advance

/-- `scratch16 <- 0xFF00 | MemRead(pc, 1); pc <- pc + 1`: the HIGH_IMM address row. -/
def readImmHigh : Row := fun s =>
  (((s.afterRead s.regs.pc).setScratch16 (highPage (s.busAnswer s.regs.pc))).setPc (s.regs.pc + 1)).advance

/-- The two IMM16 rows. -/
def readImm16 : List Row := [readImmLo, readImmHi]

/-! ## Read paths (R101) -/

/-- The 8-bit source descriptors. -/
inductive Source8 where
  | reg (r : Reg8) | imm8 | ind (rp : IndPair) | indHLI | indHLD | highC | highImm | dir8
deriving DecidableEq, Repr

/-- The rows a read occupies before its value is usable (R101). -/
def Source8.readRows : Source8 → List Row
  | .reg _ => []
  | .imm8 => [readImm8]
  | .ind rp => [fun s => (s.loadScratch8 (s.get16 (indReg rp))).advance]
  | .indHLI => [fun s => ((s.loadScratch8 s.hl).set16 .hl (s.hl + 1)).advance]
  | .indHLD => [fun s => ((s.loadScratch8 s.hl).set16 .hl (s.hl - 1)).advance]
  | .highC => [fun s => (s.loadScratch8 (highPage s.regs.c)).advance]
  | .highImm => [readImmHigh, fun s => (s.loadScratch8 s.ctx.scratch16).advance]
  | .dir8 => readImm16 ++ [fun s => (s.loadScratch8 s.ctx.scratch16).advance]

/-- The value delivered: a register in the row that uses it, scratch8 for every other descriptor (R101). -/
def Source8.value : Source8 → State → Byte
  | .reg r, s => s.get8 r
  | .imm8, s | .ind _, s | .indHLI, s | .indHLD, s | .highC, s | .highImm, s | .dir8, s => s.ctx.scratch8

/-! ## Write paths (R102) -/

/-- The 8-bit destination descriptors. -/
inductive Dest8 where
  | reg (r : Reg8) | ind (rp : IndPair) | indHLI | indHLD | highC | highImm | dir8
deriving DecidableEq, Repr

/-- The address a destination's write row stores to, in the state on entry to that row; a register stores nowhere. -/
def Dest8.address : Dest8 → State → Option Word
  | .reg _, _ => none
  | .ind rp, s => some (s.get16 (indReg rp))
  | .indHLI, s | .indHLD, s => some s.hl
  | .highC, s => some (highPage s.regs.c)
  | .highImm, s | .dir8, s => some s.ctx.scratch16

/-- The rows a write occupies, given the value it writes as a function of the state (R102). -/
def Dest8.writeRows (v : State → Byte) : Dest8 → List Row
  | .reg _ => []
  | .ind rp => [fun s => (s.busWrite (s.get16 (indReg rp)) (v s)).advance]
  | .indHLI => [fun s => ((s.busWrite s.hl (v s)).set16 .hl (s.hl + 1)).advance]
  | .indHLD => [fun s => ((s.busWrite s.hl (v s)).set16 .hl (s.hl - 1)).advance]
  | .highC => [fun s => (s.busWrite (highPage s.regs.c) (v s)).advance]
  | .highImm => [readImmHigh, fun s => (s.busWrite s.ctx.scratch16 (v s)).advance]
  | .dir8 => readImm16 ++ [fun s => (s.busWrite s.ctx.scratch16 (v s)).advance]

/-- What the final row writes: a register destination without an internal row is written there (R102, R103). -/
def Dest8.commit : Dest8 → Byte → State → State
  | .reg r, v, s => s.set8 r v
  | .ind _, _, s | .indHLI, _, s | .indHLD, _, s | .highC, _, s | .highImm, _, s | .dir8, _, s => s

/-- The two rows of the write path `DIR16` after its address is in scratch16: low byte to nn, high byte to nn+1 (R102, D7). -/
def writeDir16 (v : State → Word) : List Row :=
  [fun s => (s.busWrite s.ctx.scratch16 (loByte (v s))).advance,
   fun s => (s.busWrite (s.ctx.scratch16 + 1) (hiByte (v s))).advance]

/-- The address a `STACK` row stores to: sp is decremented before the write (R102, D23). -/
def State.pushAddress (s : State) : Word := s.regs.sp - 1

/-- `sp <- sp - 1; MemWrite(sp, 1, v)`: one `STACK` row. -/
def pushByte (v : State → Byte) : Row := fun s =>
  ((s.set16 .sp s.pushAddress).busWrite s.pushAddress (v s)).advance

/-- The two rows of the write path `STACK`: high byte first (R102, 20_memory.md R55). -/
def pushRows (v : State → Word) : List Row :=
  [pushByte (fun s => hiByte (v s)), pushByte (fun s => loByte (v s))]

end Sys2Proof.Machine
end

