-- ==== Sys2Proof/Machine/Compare.lean ====
section
/-!
DEFINITION. Compare (43_compare.md R160 to R163).
-/

namespace Sys2Proof.Machine

/-- CP: the source's rows, then the flags of `a - src` and FETCH. Only f is written (R160 to R163). -/
def cpTable (src : Source8) : List Row :=
  src.readRows ++ [fun s => (s.compareA (src.value s)).fetch]

/-! ### CP r (R161) -/

/-- CP B (R161). -/
def execCpB (s : State) : Host.Outcome State Fault Refusal := runRow (cpTable (.reg .b)) s

/-- CP C (R161). -/
def execCpC (s : State) : Host.Outcome State Fault Refusal := runRow (cpTable (.reg .c)) s

/-- CP D (R161). -/
def execCpD (s : State) : Host.Outcome State Fault Refusal := runRow (cpTable (.reg .d)) s

/-- CP E (R161). -/
def execCpE (s : State) : Host.Outcome State Fault Refusal := runRow (cpTable (.reg .e)) s

/-- CP H (R161). -/
def execCpH (s : State) : Host.Outcome State Fault Refusal := runRow (cpTable (.reg .h)) s

/-- CP L (R161). -/
def execCpL (s : State) : Host.Outcome State Fault Refusal := runRow (cpTable (.reg .l)) s

/-- CP A (R161). -/
def execCpA (s : State) : Host.Outcome State Fault Refusal := runRow (cpTable (.reg .a)) s

/-! ### CP (HL) (R162) -/

/-- CP (HL) (R162). -/
def execCpIndHL (s : State) : Host.Outcome State Fault Refusal := runRow (cpTable (.ind .hl)) s

/-! ### CP n (R163) -/

/-- CP n (R163). -/
def execCpN (s : State) : Host.Outcome State Fault Refusal := runRow (cpTable .imm8) s

end Sys2Proof.Machine
end

