-- ==== Sys2Proof/Machine/Load16.lean ====
section
/-!
DEFINITION. The 16-bit loads (42_load16.md R150 to R152).
-/

namespace Sys2Proof.Machine

/-- LD rr,nn: both halves of the pair change together in c2 (R150). -/
def ldPairImmTable (rr : PairRR) : List Row :=
  readImm16 ++ [fun s => (s.set16 (pairReg rr) s.ctx.scratch16).fetch]

/-- LD SP,HL: c0 is the internal row and writes sp (R151). -/
def ldSPHLTable : List Row := [fun s => (s.set16 .sp s.hl).advance, State.fetch]

/-- LD (nn),SP: low byte to nn, high byte to nn+1 (R152). -/
def ldDirSPTable : List Row := readImm16 ++ writeDir16 (fun s => s.regs.sp) ++ [State.fetch]

/-! ### LD rr,nn (R150) -/

/-- LD BC,nn (R150). -/
def execLdBCNn (s : State) : Host.Outcome State Fault Refusal := runRow (ldPairImmTable .bc) s

/-- LD DE,nn (R150). -/
def execLdDENn (s : State) : Host.Outcome State Fault Refusal := runRow (ldPairImmTable .de) s

/-- LD HL,nn (R150). -/
def execLdHLNn (s : State) : Host.Outcome State Fault Refusal := runRow (ldPairImmTable .hl) s

/-- LD SP,nn (R150). -/
def execLdSPNn (s : State) : Host.Outcome State Fault Refusal := runRow (ldPairImmTable .sp) s

/-! ### LD SP,HL (R151) -/

/-- LD SP,HL (R151). -/
def execLdSPHL (s : State) : Host.Outcome State Fault Refusal := runRow ldSPHLTable s

/-! ### LD (nn),SP (R152) -/

/-- LD (nn),SP (R152). -/
def execLdIndNnSP (s : State) : Host.Outcome State Fault Refusal := runRow ldDirSPTable s

end Sys2Proof.Machine
end

