-- ==== Sys2Proof/Machine/Load8.lean ====
section
/-!
DEFINITION. The 8-bit loads (41_load8.md R120 to R139). One cycle table for the family, composed by the timing law
(40_sequencer.md R103): the source's rows, then the destination's, then the row that writes a register destination and ends
with FETCH. `Sys2Proof/Laws/Tables.lean` states each form's rows as the spec's own table lists them.
-/

namespace Sys2Proof.Machine

/-- "An 8-bit load copies one byte from its source operand to its destination operand" (R120). -/
def load8Table (dst : Dest8) (src : Source8) : List Row :=
  src.readRows ++ dst.writeRows src.value ++ [fun s => (dst.commit (src.value s) s).fetch]

/-! ### LD r,r' (R121) -/

/-- LD B,B (R121). -/
def execLdBB (s : State) : Host.Outcome State Fault Refusal := runRow (load8Table (.reg .b) (.reg .b)) s

/-- LD B,C (R121). -/
def execLdBC (s : State) : Host.Outcome State Fault Refusal := runRow (load8Table (.reg .b) (.reg .c)) s

/-- LD B,D (R121). -/
def execLdBD (s : State) : Host.Outcome State Fault Refusal := runRow (load8Table (.reg .b) (.reg .d)) s

/-- LD B,E (R121). -/
def execLdBE (s : State) : Host.Outcome State Fault Refusal := runRow (load8Table (.reg .b) (.reg .e)) s

/-- LD B,H (R121). -/
def execLdBH (s : State) : Host.Outcome State Fault Refusal := runRow (load8Table (.reg .b) (.reg .h)) s

/-- LD B,L (R121). -/
def execLdBL (s : State) : Host.Outcome State Fault Refusal := runRow (load8Table (.reg .b) (.reg .l)) s

/-- LD B,A (R121). -/
def execLdBA (s : State) : Host.Outcome State Fault Refusal := runRow (load8Table (.reg .b) (.reg .a)) s

/-- LD C,B (R121). -/
def execLdCB (s : State) : Host.Outcome State Fault Refusal := runRow (load8Table (.reg .c) (.reg .b)) s

/-- LD C,C (R121). -/
def execLdCC (s : State) : Host.Outcome State Fault Refusal := runRow (load8Table (.reg .c) (.reg .c)) s

/-- LD C,D (R121). -/
def execLdCD (s : State) : Host.Outcome State Fault Refusal := runRow (load8Table (.reg .c) (.reg .d)) s

/-- LD C,E (R121). -/
def execLdCE (s : State) : Host.Outcome State Fault Refusal := runRow (load8Table (.reg .c) (.reg .e)) s

/-- LD C,H (R121). -/
def execLdCH (s : State) : Host.Outcome State Fault Refusal := runRow (load8Table (.reg .c) (.reg .h)) s

/-- LD C,L (R121). -/
def execLdCL (s : State) : Host.Outcome State Fault Refusal := runRow (load8Table (.reg .c) (.reg .l)) s

/-- LD C,A (R121). -/
def execLdCA (s : State) : Host.Outcome State Fault Refusal := runRow (load8Table (.reg .c) (.reg .a)) s

/-- LD D,B (R121). -/
def execLdDB (s : State) : Host.Outcome State Fault Refusal := runRow (load8Table (.reg .d) (.reg .b)) s

/-- LD D,C (R121). -/
def execLdDC (s : State) : Host.Outcome State Fault Refusal := runRow (load8Table (.reg .d) (.reg .c)) s

/-- LD D,D (R121). -/
def execLdDD (s : State) : Host.Outcome State Fault Refusal := runRow (load8Table (.reg .d) (.reg .d)) s

/-- LD D,E (R121). -/
def execLdDE (s : State) : Host.Outcome State Fault Refusal := runRow (load8Table (.reg .d) (.reg .e)) s

/-- LD D,H (R121). -/
def execLdDH (s : State) : Host.Outcome State Fault Refusal := runRow (load8Table (.reg .d) (.reg .h)) s

/-- LD D,L (R121). -/
def execLdDL (s : State) : Host.Outcome State Fault Refusal := runRow (load8Table (.reg .d) (.reg .l)) s

/-- LD D,A (R121). -/
def execLdDA (s : State) : Host.Outcome State Fault Refusal := runRow (load8Table (.reg .d) (.reg .a)) s

/-- LD E,B (R121). -/
def execLdEB (s : State) : Host.Outcome State Fault Refusal := runRow (load8Table (.reg .e) (.reg .b)) s

/-- LD E,C (R121). -/
def execLdEC (s : State) : Host.Outcome State Fault Refusal := runRow (load8Table (.reg .e) (.reg .c)) s

/-- LD E,D (R121). -/
def execLdED (s : State) : Host.Outcome State Fault Refusal := runRow (load8Table (.reg .e) (.reg .d)) s

/-- LD E,E (R121). -/
def execLdEE (s : State) : Host.Outcome State Fault Refusal := runRow (load8Table (.reg .e) (.reg .e)) s

/-- LD E,H (R121). -/
def execLdEH (s : State) : Host.Outcome State Fault Refusal := runRow (load8Table (.reg .e) (.reg .h)) s

/-- LD E,L (R121). -/
def execLdEL (s : State) : Host.Outcome State Fault Refusal := runRow (load8Table (.reg .e) (.reg .l)) s

/-- LD E,A (R121). -/
def execLdEA (s : State) : Host.Outcome State Fault Refusal := runRow (load8Table (.reg .e) (.reg .a)) s

/-- LD H,B (R121). -/
def execLdHB (s : State) : Host.Outcome State Fault Refusal := runRow (load8Table (.reg .h) (.reg .b)) s

/-- LD H,C (R121). -/
def execLdHC (s : State) : Host.Outcome State Fault Refusal := runRow (load8Table (.reg .h) (.reg .c)) s

/-- LD H,D (R121). -/
def execLdHD (s : State) : Host.Outcome State Fault Refusal := runRow (load8Table (.reg .h) (.reg .d)) s

/-- LD H,E (R121). -/
def execLdHE (s : State) : Host.Outcome State Fault Refusal := runRow (load8Table (.reg .h) (.reg .e)) s

/-- LD H,H (R121). -/
def execLdHH (s : State) : Host.Outcome State Fault Refusal := runRow (load8Table (.reg .h) (.reg .h)) s

/-- LD H,L (R121). -/
def execLdHL (s : State) : Host.Outcome State Fault Refusal := runRow (load8Table (.reg .h) (.reg .l)) s

/-- LD H,A (R121). -/
def execLdHA (s : State) : Host.Outcome State Fault Refusal := runRow (load8Table (.reg .h) (.reg .a)) s

/-- LD L,B (R121). -/
def execLdLB (s : State) : Host.Outcome State Fault Refusal := runRow (load8Table (.reg .l) (.reg .b)) s

/-- LD L,C (R121). -/
def execLdLC (s : State) : Host.Outcome State Fault Refusal := runRow (load8Table (.reg .l) (.reg .c)) s

/-- LD L,D (R121). -/
def execLdLD (s : State) : Host.Outcome State Fault Refusal := runRow (load8Table (.reg .l) (.reg .d)) s

/-- LD L,E (R121). -/
def execLdLE (s : State) : Host.Outcome State Fault Refusal := runRow (load8Table (.reg .l) (.reg .e)) s

/-- LD L,H (R121). -/
def execLdLH (s : State) : Host.Outcome State Fault Refusal := runRow (load8Table (.reg .l) (.reg .h)) s

/-- LD L,L (R121). -/
def execLdLL (s : State) : Host.Outcome State Fault Refusal := runRow (load8Table (.reg .l) (.reg .l)) s

/-- LD L,A (R121). -/
def execLdLA (s : State) : Host.Outcome State Fault Refusal := runRow (load8Table (.reg .l) (.reg .a)) s

/-- LD A,B (R121). -/
def execLdAB (s : State) : Host.Outcome State Fault Refusal := runRow (load8Table (.reg .a) (.reg .b)) s

/-- LD A,C (R121). -/
def execLdAC (s : State) : Host.Outcome State Fault Refusal := runRow (load8Table (.reg .a) (.reg .c)) s

/-- LD A,D (R121). -/
def execLdAD (s : State) : Host.Outcome State Fault Refusal := runRow (load8Table (.reg .a) (.reg .d)) s

/-- LD A,E (R121). -/
def execLdAE (s : State) : Host.Outcome State Fault Refusal := runRow (load8Table (.reg .a) (.reg .e)) s

/-- LD A,H (R121). -/
def execLdAH (s : State) : Host.Outcome State Fault Refusal := runRow (load8Table (.reg .a) (.reg .h)) s

/-- LD A,L (R121). -/
def execLdAL (s : State) : Host.Outcome State Fault Refusal := runRow (load8Table (.reg .a) (.reg .l)) s

/-- LD A,A (R121). -/
def execLdAA (s : State) : Host.Outcome State Fault Refusal := runRow (load8Table (.reg .a) (.reg .a)) s

/-! ### LD r,(HL) (R123) -/

/-- LD B,(HL) (R123). -/
def execLdBIndHL (s : State) : Host.Outcome State Fault Refusal := runRow (load8Table (.reg .b) (.ind .hl)) s

/-- LD C,(HL) (R123). -/
def execLdCIndHL (s : State) : Host.Outcome State Fault Refusal := runRow (load8Table (.reg .c) (.ind .hl)) s

/-- LD D,(HL) (R123). -/
def execLdDIndHL (s : State) : Host.Outcome State Fault Refusal := runRow (load8Table (.reg .d) (.ind .hl)) s

/-- LD E,(HL) (R123). -/
def execLdEIndHL (s : State) : Host.Outcome State Fault Refusal := runRow (load8Table (.reg .e) (.ind .hl)) s

/-- LD H,(HL) (R123). -/
def execLdHIndHL (s : State) : Host.Outcome State Fault Refusal := runRow (load8Table (.reg .h) (.ind .hl)) s

/-- LD L,(HL) (R123). -/
def execLdLIndHL (s : State) : Host.Outcome State Fault Refusal := runRow (load8Table (.reg .l) (.ind .hl)) s

/-- LD A,(HL) (R123). -/
def execLdAIndHL (s : State) : Host.Outcome State Fault Refusal := runRow (load8Table (.reg .a) (.ind .hl)) s

/-! ### LD (HL),r (R124) -/

/-- LD (HL),B (R124). -/
def execLdIndHLB (s : State) : Host.Outcome State Fault Refusal := runRow (load8Table (.ind .hl) (.reg .b)) s

/-- LD (HL),C (R124). -/
def execLdIndHLC (s : State) : Host.Outcome State Fault Refusal := runRow (load8Table (.ind .hl) (.reg .c)) s

/-- LD (HL),D (R124). -/
def execLdIndHLD (s : State) : Host.Outcome State Fault Refusal := runRow (load8Table (.ind .hl) (.reg .d)) s

/-- LD (HL),E (R124). -/
def execLdIndHLE (s : State) : Host.Outcome State Fault Refusal := runRow (load8Table (.ind .hl) (.reg .e)) s

/-- LD (HL),H (R124). -/
def execLdIndHLH (s : State) : Host.Outcome State Fault Refusal := runRow (load8Table (.ind .hl) (.reg .h)) s

/-- LD (HL),L (R124). -/
def execLdIndHLL (s : State) : Host.Outcome State Fault Refusal := runRow (load8Table (.ind .hl) (.reg .l)) s

/-- LD (HL),A (R124). -/
def execLdIndHLA (s : State) : Host.Outcome State Fault Refusal := runRow (load8Table (.ind .hl) (.reg .a)) s

/-! ### LD r,n (R122) -/

/-- LD B,n (R122). -/
def execLdBN (s : State) : Host.Outcome State Fault Refusal := runRow (load8Table (.reg .b) .imm8) s

/-- LD C,n (R122). -/
def execLdCN (s : State) : Host.Outcome State Fault Refusal := runRow (load8Table (.reg .c) .imm8) s

/-- LD D,n (R122). -/
def execLdDN (s : State) : Host.Outcome State Fault Refusal := runRow (load8Table (.reg .d) .imm8) s

/-- LD E,n (R122). -/
def execLdEN (s : State) : Host.Outcome State Fault Refusal := runRow (load8Table (.reg .e) .imm8) s

/-- LD H,n (R122). -/
def execLdHN (s : State) : Host.Outcome State Fault Refusal := runRow (load8Table (.reg .h) .imm8) s

/-- LD L,n (R122). -/
def execLdLN (s : State) : Host.Outcome State Fault Refusal := runRow (load8Table (.reg .l) .imm8) s

/-- LD A,n (R122). -/
def execLdAN (s : State) : Host.Outcome State Fault Refusal := runRow (load8Table (.reg .a) .imm8) s

/-! ### LD (HL),n (R125) -/

/-- LD (HL),n (R125). -/
def execLdIndHLN (s : State) : Host.Outcome State Fault Refusal := runRow (load8Table (.ind .hl) .imm8) s

/-! ### LD A,(BC) (R126) -/

/-- LD A,(BC) (R126). -/
def execLdAIndBC (s : State) : Host.Outcome State Fault Refusal := runRow (load8Table (.reg .a) (.ind .bc)) s

/-! ### LD A,(DE) (R127) -/

/-- LD A,(DE) (R127). -/
def execLdAIndDE (s : State) : Host.Outcome State Fault Refusal := runRow (load8Table (.reg .a) (.ind .de)) s

/-! ### LD (BC),A (R128) -/

/-- LD (BC),A (R128). -/
def execLdIndBCA (s : State) : Host.Outcome State Fault Refusal := runRow (load8Table (.ind .bc) (.reg .a)) s

/-! ### LD (DE),A (R129) -/

/-- LD (DE),A (R129). -/
def execLdIndDEA (s : State) : Host.Outcome State Fault Refusal := runRow (load8Table (.ind .de) (.reg .a)) s

/-! ### LD A,(HL+) (R130) -/

/-- LD A,(HL+) (R130). -/
def execLdAIndHLI (s : State) : Host.Outcome State Fault Refusal := runRow (load8Table (.reg .a) .indHLI) s

/-! ### LD A,(HL-) (R131) -/

/-- LD A,(HL-) (R131). -/
def execLdAIndHLD (s : State) : Host.Outcome State Fault Refusal := runRow (load8Table (.reg .a) .indHLD) s

/-! ### LD (HL+),A (R132) -/

/-- LD (HL+),A (R132). -/
def execLdIndHLIA (s : State) : Host.Outcome State Fault Refusal := runRow (load8Table .indHLI (.reg .a)) s

/-! ### LD (HL-),A (R133) -/

/-- LD (HL-),A (R133). -/
def execLdIndHLDA (s : State) : Host.Outcome State Fault Refusal := runRow (load8Table .indHLD (.reg .a)) s

/-! ### LD A,(nn) (R134) -/

/-- LD A,(nn) (R134). -/
def execLdAIndNn (s : State) : Host.Outcome State Fault Refusal := runRow (load8Table (.reg .a) .dir8) s

/-! ### LD (nn),A (R135) -/

/-- LD (nn),A (R135). -/
def execLdIndNnA (s : State) : Host.Outcome State Fault Refusal := runRow (load8Table .dir8 (.reg .a)) s

/-! ### LDH A,(n) (R136) -/

/-- LDH A,(n) (R136). -/
def execLdhAIndN (s : State) : Host.Outcome State Fault Refusal := runRow (load8Table (.reg .a) .highImm) s

/-! ### LDH (n),A (R137) -/

/-- LDH (n),A (R137). -/
def execLdhIndNA (s : State) : Host.Outcome State Fault Refusal := runRow (load8Table .highImm (.reg .a)) s

/-! ### LD A,(C) (R138) -/

/-- LD A,(C) (R138). -/
def execLdAIndC (s : State) : Host.Outcome State Fault Refusal := runRow (load8Table (.reg .a) .highC) s

/-! ### LD (C),A (R139) -/

/-- LD (C),A (R139). -/
def execLdIndCA (s : State) : Host.Outcome State Fault Refusal := runRow (load8Table .highC (.reg .a)) s

end Sys2Proof.Machine
end

