-- ==== Sys2Proof/Machine/IncDec.lean ====
section
/-!
DEFINITION. Increment and decrement, 8-bit and 16-bit (44_incdec.md R168 to R177), and the read-modify-write table that
INC (HL), DEC (HL) and RL (HL) share (R171, R173, 45_cb_rotate_bit.md R191).
-/

namespace Sys2Proof.Machine

/-- Read-modify-write of the byte at hl: read, then change scratch8 and write it back, then FETCH (R171, R173, R191). -/
def rmwHLTable (change : State → State) : List Row :=
  [fun s => (s.loadScratch8 s.hl).advance,
   fun s => ((change s).busWrite s.hl (change s).ctx.scratch8).advance,
   State.fetch]

/-- INC r (R170). -/
def incRegTable (dst : Reg8) : List Row := [fun s => (s.incReg8 dst).fetch]

/-- DEC r (R172). -/
def decRegTable (dst : Reg8) : List Row := [fun s => (s.decReg8 dst).fetch]

/-- INC rr: c0 is the internal row and writes the pair; no flag (R174, R176). -/
def incPairTable (rr : PairRR) : List Row :=
  [fun s => (s.set16 (pairReg rr) (s.get16 (pairReg rr) + 1)).advance, State.fetch]

/-- DEC rr: c0 is the internal row and writes the pair; no flag (R174, R177). -/
def decPairTable (rr : PairRR) : List Row :=
  [fun s => (s.set16 (pairReg rr) (s.get16 (pairReg rr) - 1)).advance, State.fetch]

/-! ### INC r (R170) -/

/-- INC B (R170). -/
def execIncB (s : State) : Host.Outcome State Fault Refusal := runRow (incRegTable .b) s

/-- INC C (R170). -/
def execIncC (s : State) : Host.Outcome State Fault Refusal := runRow (incRegTable .c) s

/-- INC D (R170). -/
def execIncD (s : State) : Host.Outcome State Fault Refusal := runRow (incRegTable .d) s

/-- INC E (R170). -/
def execIncE (s : State) : Host.Outcome State Fault Refusal := runRow (incRegTable .e) s

/-- INC H (R170). -/
def execIncH (s : State) : Host.Outcome State Fault Refusal := runRow (incRegTable .h) s

/-- INC L (R170). -/
def execIncL (s : State) : Host.Outcome State Fault Refusal := runRow (incRegTable .l) s

/-- INC A (R170). -/
def execIncA (s : State) : Host.Outcome State Fault Refusal := runRow (incRegTable .a) s

/-! ### DEC r (R172) -/

/-- DEC B (R172). -/
def execDecB (s : State) : Host.Outcome State Fault Refusal := runRow (decRegTable .b) s

/-- DEC C (R172). -/
def execDecC (s : State) : Host.Outcome State Fault Refusal := runRow (decRegTable .c) s

/-- DEC D (R172). -/
def execDecD (s : State) : Host.Outcome State Fault Refusal := runRow (decRegTable .d) s

/-- DEC E (R172). -/
def execDecE (s : State) : Host.Outcome State Fault Refusal := runRow (decRegTable .e) s

/-- DEC H (R172). -/
def execDecH (s : State) : Host.Outcome State Fault Refusal := runRow (decRegTable .h) s

/-- DEC L (R172). -/
def execDecL (s : State) : Host.Outcome State Fault Refusal := runRow (decRegTable .l) s

/-- DEC A (R172). -/
def execDecA (s : State) : Host.Outcome State Fault Refusal := runRow (decRegTable .a) s

/-! ### INC (HL) (R171) -/

/-- INC (HL) (R171). -/
def execIncIndHL (s : State) : Host.Outcome State Fault Refusal := runRow (rmwHLTable State.incScratch8) s

/-! ### DEC (HL) (R173) -/

/-- DEC (HL) (R173). -/
def execDecIndHL (s : State) : Host.Outcome State Fault Refusal := runRow (rmwHLTable State.decScratch8) s

/-! ### INC rr (R176) -/

/-- INC BC (R176). -/
def execIncBC (s : State) : Host.Outcome State Fault Refusal := runRow (incPairTable .bc) s

/-- INC DE (R176). -/
def execIncDE (s : State) : Host.Outcome State Fault Refusal := runRow (incPairTable .de) s

/-- INC HL (R176). -/
def execIncHL (s : State) : Host.Outcome State Fault Refusal := runRow (incPairTable .hl) s

/-- INC SP (R176). -/
def execIncSP (s : State) : Host.Outcome State Fault Refusal := runRow (incPairTable .sp) s

/-! ### DEC rr (R177) -/

/-- DEC BC (R177). -/
def execDecBC (s : State) : Host.Outcome State Fault Refusal := runRow (decPairTable .bc) s

/-- DEC DE (R177). -/
def execDecDE (s : State) : Host.Outcome State Fault Refusal := runRow (decPairTable .de) s

/-- DEC HL (R177). -/
def execDecHL (s : State) : Host.Outcome State Fault Refusal := runRow (decPairTable .hl) s

/-- DEC SP (R177). -/
def execDecSP (s : State) : Host.Outcome State Fault Refusal := runRow (decPairTable .sp) s

end Sys2Proof.Machine
end

