-- ==== Sys2Proof/Machine/RotateBit.lean ====
section
/-!
DEFINITION. The CB-table rotate and bit test (45_cb_rotate_bit.md R188 to R193). The rows are those of the CB handler; the cycle
of PREFIX CB comes before them (40_sequencer.md R112, R113).
-/

namespace Sys2Proof.Machine

/-- RL r (R190). -/
def rlRegTable (r : Reg8) : List Row := [fun s => (s.rlReg8 r).fetch]

/-- BIT b of a source: the source's rows, then the flags and FETCH (R192, R193). -/
def bitTable (b : Fin 8) (src : Source8) : List Row :=
  src.readRows ++ [fun s => (s.bitTest b (src.value s)).fetch]

/-! ### RL r (R190) -/

/-- RL B (R190). -/
def execRlB (s : State) : Host.Outcome State Fault Refusal := runRow (rlRegTable .b) s

/-- RL C (R190). -/
def execRlC (s : State) : Host.Outcome State Fault Refusal := runRow (rlRegTable .c) s

/-- RL D (R190). -/
def execRlD (s : State) : Host.Outcome State Fault Refusal := runRow (rlRegTable .d) s

/-- RL E (R190). -/
def execRlE (s : State) : Host.Outcome State Fault Refusal := runRow (rlRegTable .e) s

/-- RL H (R190). -/
def execRlH (s : State) : Host.Outcome State Fault Refusal := runRow (rlRegTable .h) s

/-- RL L (R190). -/
def execRlL (s : State) : Host.Outcome State Fault Refusal := runRow (rlRegTable .l) s

/-- RL A (R190). -/
def execRlA (s : State) : Host.Outcome State Fault Refusal := runRow (rlRegTable .a) s

/-! ### RL (HL) (R191) -/

/-- RL (HL) (R191). -/
def execRlIndHL (s : State) : Host.Outcome State Fault Refusal := runRow (rmwHLTable State.rlScratch8) s

/-! ### BIT b,r (R192) -/

/-- BIT 0,B (R192). -/
def execBit0B (s : State) : Host.Outcome State Fault Refusal := runRow (bitTable 0 (.reg .b)) s

/-- BIT 0,C (R192). -/
def execBit0C (s : State) : Host.Outcome State Fault Refusal := runRow (bitTable 0 (.reg .c)) s

/-- BIT 0,D (R192). -/
def execBit0D (s : State) : Host.Outcome State Fault Refusal := runRow (bitTable 0 (.reg .d)) s

/-- BIT 0,E (R192). -/
def execBit0E (s : State) : Host.Outcome State Fault Refusal := runRow (bitTable 0 (.reg .e)) s

/-- BIT 0,H (R192). -/
def execBit0H (s : State) : Host.Outcome State Fault Refusal := runRow (bitTable 0 (.reg .h)) s

/-- BIT 0,L (R192). -/
def execBit0L (s : State) : Host.Outcome State Fault Refusal := runRow (bitTable 0 (.reg .l)) s

/-- BIT 0,A (R192). -/
def execBit0A (s : State) : Host.Outcome State Fault Refusal := runRow (bitTable 0 (.reg .a)) s

/-- BIT 1,B (R192). -/
def execBit1B (s : State) : Host.Outcome State Fault Refusal := runRow (bitTable 1 (.reg .b)) s

/-- BIT 1,C (R192). -/
def execBit1C (s : State) : Host.Outcome State Fault Refusal := runRow (bitTable 1 (.reg .c)) s

/-- BIT 1,D (R192). -/
def execBit1D (s : State) : Host.Outcome State Fault Refusal := runRow (bitTable 1 (.reg .d)) s

/-- BIT 1,E (R192). -/
def execBit1E (s : State) : Host.Outcome State Fault Refusal := runRow (bitTable 1 (.reg .e)) s

/-- BIT 1,H (R192). -/
def execBit1H (s : State) : Host.Outcome State Fault Refusal := runRow (bitTable 1 (.reg .h)) s

/-- BIT 1,L (R192). -/
def execBit1L (s : State) : Host.Outcome State Fault Refusal := runRow (bitTable 1 (.reg .l)) s

/-- BIT 1,A (R192). -/
def execBit1A (s : State) : Host.Outcome State Fault Refusal := runRow (bitTable 1 (.reg .a)) s

/-- BIT 2,B (R192). -/
def execBit2B (s : State) : Host.Outcome State Fault Refusal := runRow (bitTable 2 (.reg .b)) s

/-- BIT 2,C (R192). -/
def execBit2C (s : State) : Host.Outcome State Fault Refusal := runRow (bitTable 2 (.reg .c)) s

/-- BIT 2,D (R192). -/
def execBit2D (s : State) : Host.Outcome State Fault Refusal := runRow (bitTable 2 (.reg .d)) s

/-- BIT 2,E (R192). -/
def execBit2E (s : State) : Host.Outcome State Fault Refusal := runRow (bitTable 2 (.reg .e)) s

/-- BIT 2,H (R192). -/
def execBit2H (s : State) : Host.Outcome State Fault Refusal := runRow (bitTable 2 (.reg .h)) s

/-- BIT 2,L (R192). -/
def execBit2L (s : State) : Host.Outcome State Fault Refusal := runRow (bitTable 2 (.reg .l)) s

/-- BIT 2,A (R192). -/
def execBit2A (s : State) : Host.Outcome State Fault Refusal := runRow (bitTable 2 (.reg .a)) s

/-- BIT 3,B (R192). -/
def execBit3B (s : State) : Host.Outcome State Fault Refusal := runRow (bitTable 3 (.reg .b)) s

/-- BIT 3,C (R192). -/
def execBit3C (s : State) : Host.Outcome State Fault Refusal := runRow (bitTable 3 (.reg .c)) s

/-- BIT 3,D (R192). -/
def execBit3D (s : State) : Host.Outcome State Fault Refusal := runRow (bitTable 3 (.reg .d)) s

/-- BIT 3,E (R192). -/
def execBit3E (s : State) : Host.Outcome State Fault Refusal := runRow (bitTable 3 (.reg .e)) s

/-- BIT 3,H (R192). -/
def execBit3H (s : State) : Host.Outcome State Fault Refusal := runRow (bitTable 3 (.reg .h)) s

/-- BIT 3,L (R192). -/
def execBit3L (s : State) : Host.Outcome State Fault Refusal := runRow (bitTable 3 (.reg .l)) s

/-- BIT 3,A (R192). -/
def execBit3A (s : State) : Host.Outcome State Fault Refusal := runRow (bitTable 3 (.reg .a)) s

/-- BIT 4,B (R192). -/
def execBit4B (s : State) : Host.Outcome State Fault Refusal := runRow (bitTable 4 (.reg .b)) s

/-- BIT 4,C (R192). -/
def execBit4C (s : State) : Host.Outcome State Fault Refusal := runRow (bitTable 4 (.reg .c)) s

/-- BIT 4,D (R192). -/
def execBit4D (s : State) : Host.Outcome State Fault Refusal := runRow (bitTable 4 (.reg .d)) s

/-- BIT 4,E (R192). -/
def execBit4E (s : State) : Host.Outcome State Fault Refusal := runRow (bitTable 4 (.reg .e)) s

/-- BIT 4,H (R192). -/
def execBit4H (s : State) : Host.Outcome State Fault Refusal := runRow (bitTable 4 (.reg .h)) s

/-- BIT 4,L (R192). -/
def execBit4L (s : State) : Host.Outcome State Fault Refusal := runRow (bitTable 4 (.reg .l)) s

/-- BIT 4,A (R192). -/
def execBit4A (s : State) : Host.Outcome State Fault Refusal := runRow (bitTable 4 (.reg .a)) s

/-- BIT 5,B (R192). -/
def execBit5B (s : State) : Host.Outcome State Fault Refusal := runRow (bitTable 5 (.reg .b)) s

/-- BIT 5,C (R192). -/
def execBit5C (s : State) : Host.Outcome State Fault Refusal := runRow (bitTable 5 (.reg .c)) s

/-- BIT 5,D (R192). -/
def execBit5D (s : State) : Host.Outcome State Fault Refusal := runRow (bitTable 5 (.reg .d)) s

/-- BIT 5,E (R192). -/
def execBit5E (s : State) : Host.Outcome State Fault Refusal := runRow (bitTable 5 (.reg .e)) s

/-- BIT 5,H (R192). -/
def execBit5H (s : State) : Host.Outcome State Fault Refusal := runRow (bitTable 5 (.reg .h)) s

/-- BIT 5,L (R192). -/
def execBit5L (s : State) : Host.Outcome State Fault Refusal := runRow (bitTable 5 (.reg .l)) s

/-- BIT 5,A (R192). -/
def execBit5A (s : State) : Host.Outcome State Fault Refusal := runRow (bitTable 5 (.reg .a)) s

/-- BIT 6,B (R192). -/
def execBit6B (s : State) : Host.Outcome State Fault Refusal := runRow (bitTable 6 (.reg .b)) s

/-- BIT 6,C (R192). -/
def execBit6C (s : State) : Host.Outcome State Fault Refusal := runRow (bitTable 6 (.reg .c)) s

/-- BIT 6,D (R192). -/
def execBit6D (s : State) : Host.Outcome State Fault Refusal := runRow (bitTable 6 (.reg .d)) s

/-- BIT 6,E (R192). -/
def execBit6E (s : State) : Host.Outcome State Fault Refusal := runRow (bitTable 6 (.reg .e)) s

/-- BIT 6,H (R192). -/
def execBit6H (s : State) : Host.Outcome State Fault Refusal := runRow (bitTable 6 (.reg .h)) s

/-- BIT 6,L (R192). -/
def execBit6L (s : State) : Host.Outcome State Fault Refusal := runRow (bitTable 6 (.reg .l)) s

/-- BIT 6,A (R192). -/
def execBit6A (s : State) : Host.Outcome State Fault Refusal := runRow (bitTable 6 (.reg .a)) s

/-- BIT 7,B (R192). -/
def execBit7B (s : State) : Host.Outcome State Fault Refusal := runRow (bitTable 7 (.reg .b)) s

/-- BIT 7,C (R192). -/
def execBit7C (s : State) : Host.Outcome State Fault Refusal := runRow (bitTable 7 (.reg .c)) s

/-- BIT 7,D (R192). -/
def execBit7D (s : State) : Host.Outcome State Fault Refusal := runRow (bitTable 7 (.reg .d)) s

/-- BIT 7,E (R192). -/
def execBit7E (s : State) : Host.Outcome State Fault Refusal := runRow (bitTable 7 (.reg .e)) s

/-- BIT 7,H (R192). -/
def execBit7H (s : State) : Host.Outcome State Fault Refusal := runRow (bitTable 7 (.reg .h)) s

/-- BIT 7,L (R192). -/
def execBit7L (s : State) : Host.Outcome State Fault Refusal := runRow (bitTable 7 (.reg .l)) s

/-- BIT 7,A (R192). -/
def execBit7A (s : State) : Host.Outcome State Fault Refusal := runRow (bitTable 7 (.reg .a)) s

/-! ### BIT b,(HL) (R193) -/

/-- BIT 0,(HL) (R193). -/
def execBit0IndHL (s : State) : Host.Outcome State Fault Refusal := runRow (bitTable 0 (.ind .hl)) s

/-- BIT 1,(HL) (R193). -/
def execBit1IndHL (s : State) : Host.Outcome State Fault Refusal := runRow (bitTable 1 (.ind .hl)) s

/-- BIT 2,(HL) (R193). -/
def execBit2IndHL (s : State) : Host.Outcome State Fault Refusal := runRow (bitTable 2 (.ind .hl)) s

/-- BIT 3,(HL) (R193). -/
def execBit3IndHL (s : State) : Host.Outcome State Fault Refusal := runRow (bitTable 3 (.ind .hl)) s

/-- BIT 4,(HL) (R193). -/
def execBit4IndHL (s : State) : Host.Outcome State Fault Refusal := runRow (bitTable 4 (.ind .hl)) s

/-- BIT 5,(HL) (R193). -/
def execBit5IndHL (s : State) : Host.Outcome State Fault Refusal := runRow (bitTable 5 (.ind .hl)) s

/-- BIT 6,(HL) (R193). -/
def execBit6IndHL (s : State) : Host.Outcome State Fault Refusal := runRow (bitTable 6 (.ind .hl)) s

/-- BIT 7,(HL) (R193). -/
def execBit7IndHL (s : State) : Host.Outcome State Fault Refusal := runRow (bitTable 7 (.ind .hl)) s

end Sys2Proof.Machine
end

