-- ==== Sys2Proof/Machine/Sequencing.lean ====
section
/-!
DEFINITION. The sequencing instructions NOP and PREFIX CB (40_sequencer.md R110, R112).
-/

namespace Sys2Proof.Machine

/-- NOP: c0 is FETCH (R110). -/
def nopTable : List Row := [State.fetch]

/-- PREFIX CB: c0 latches the cb-opcode; the CB-table handler runs from the next cycle (R112). -/
def prefixCBTable : List Row := [State.latchCb]

/-! ### NOP (R110) -/

/-- NOP (R110). -/
def execNop (s : State) : Host.Outcome State Fault Refusal := runRow nopTable s

/-! ### PREFIX CB (R112) -/

/-- PREFIX CB (R112). -/
def execPrefixCB (s : State) : Host.Outcome State Fault Refusal := runRow prefixCBTable s

end Sys2Proof.Machine
end

