-- ==== Sys2Proof/Machine/Stack.lean ====
section
/-!
DEFINITION. PUSH (46_stack.md R210).
-/

namespace Sys2Proof.Machine

/-- PUSH qq: c0 is the internal row and captures qq in scratch16, then the two stack rows, then FETCH (R210). -/
def pushTable (qq : PairQQ) : List Row :=
  [fun s => (s.setScratch16 (s.get16 (pushReg qq))).advance] ++ pushRows (fun s => s.ctx.scratch16) ++ [State.fetch]

/-! ### PUSH qq (R210) -/

/-- PUSH BC (R210). -/
def execPushBC (s : State) : Host.Outcome State Fault Refusal := runRow (pushTable .bc) s

/-- PUSH DE (R210). -/
def execPushDE (s : State) : Host.Outcome State Fault Refusal := runRow (pushTable .de) s

/-- PUSH HL (R210). -/
def execPushHL (s : State) : Host.Outcome State Fault Refusal := runRow (pushTable .hl) s

/-- PUSH AF (R210). -/
def execPushAF (s : State) : Host.Outcome State Fault Refusal := runRow (pushTable .af) s

end Sys2Proof.Machine
end

