-- ==== Sys2Proof/Machine/Cycle.lean ====
section
/-!
DEFINITION. One call of `advance_one_cycle` (40_sequencer.md R90 to R92): the body of `step`.
-/

namespace Sys2Proof.Machine

/-- The instruction the dispatcher selects in this cycle (R92, R98). -/
def State.latched (s : State) : Option Instr := decode s.ctx.opcode s.ctx.prefixed

/-- The algorithm of R92. A latched fault stops the step with its record (60_exceptions.md R221). A state with a nonzero low
nibble in f is refused (93_implementation_defined.md U2). An opcode with no handler takes the fatal fault: a next state with the
latch set (60_exceptions.md R220). Otherwise the row of the latched instruction is performed. -/
def advanceOneCycle (s : State) : Host.Outcome State Fault Refusal :=
  match s.fault with
  | some r => .fault (.fatalFault r)
  | none =>
    if flagLowNibbleClear s.regs.f then
      match s.latched with
      | some i => exec i s
      | none => .next s.raiseFatalFault
    else .refused .flagLowNibbleSet

end Sys2Proof.Machine
end

