-- ==== Sys2Proof/Machine/Step.lean ====
section
/-!
DEFINITION. The step of the machine: one M-cycle (00_scope.md R3, 40_sequencer.md R90).
-/

namespace Sys2Proof.Machine

/-- One call of `advance_one_cycle`. -/
def step (s : State) : Host.Outcome State Fault Refusal := advanceOneCycle s

/-- The state in which the very next step runs the instruction given as a number of the opcode table (log entry 5). -/
def State.withFetchWord (s : State) (nbits w : Nat) : State := s.placeWord nbits w

end Sys2Proof.Machine
end

