-- ==== Sys2Proof/Machine/Timing.lean ====
section
/-!
DEFINITION. The schedule of the bus as the spec's timing table gives it (70_reset_and_hazards.md R256): the cycle count of each
form, what each of its cycles does on the bus, and the address a data access goes to. The cycle tables do not use these; the
statements compare the two.
-/

namespace Sys2Proof

open Machine

/-- What a cycle does on the bus, in the letters of R256. -/
inductive Slot where
  /-- `F`: the FETCH read at pc. -/
  | fetch
  /-- `P`: PREFIX CB's read of the cb-opcode at pc. -/
  | cbFetch
  /-- `Ri`: an immediate read at pc. -/
  | imm
  /-- `Rd`: a data read. -/
  | dataRead
  /-- `Wd`: a data write. -/
  | dataWrite
  /-- `Ws`: a stack write. -/
  | stackWrite
  /-- `I`: internal, no bus access. -/
  | internal
deriving DecidableEq, Repr

/-- The cycles of a form's handler (R256); for a CB-table form PREFIX CB's cycle is not counted (30_encoding.md R84). -/
def Form.cycles : Form → Nat
  | .nop | .prefixCB => 1
  | .ldRegReg _ _ => 1
  | .ldRegImm _ => 2
  | .ldRegIndHL _ => 2
  | .ldIndHLReg _ => 2
  | .ldIndHLImm => 3
  | .ldAIndBC | .ldAIndDE | .ldIndBCA | .ldIndDEA => 2
  | .ldAIndHLI | .ldAIndHLD | .ldIndHLIA | .ldIndHLDA => 2
  | .ldADir | .ldDirA => 4
  | .ldhAImm | .ldhImmA => 3
  | .ldAHighC | .ldHighCA => 2
  | .ldPairImm _ => 3
  | .ldSPHL => 2
  | .ldDirSP => 5
  | .cpReg _ => 1
  | .cpIndHL | .cpImm => 2
  | .incReg _ | .decReg _ => 1
  | .incIndHL | .decIndHL => 3
  | .incPair _ | .decPair _ => 2
  | .rlReg _ => 1
  | .rlIndHL => 3
  | .bitReg _ _ => 1
  | .bitIndHL _ => 2
  | .push _ => 4

/-- The bus pattern of a form's handler, a slot a cycle (R256). -/
def Form.busPattern : Form → List Slot
  | .nop => [.fetch]
  | .prefixCB => [.cbFetch]
  | .ldRegReg _ _ => [.fetch]
  | .ldRegImm _ => [.imm, .fetch]
  | .ldRegIndHL _ => [.dataRead, .fetch]
  | .ldIndHLReg _ => [.dataWrite, .fetch]
  | .ldIndHLImm => [.imm, .dataWrite, .fetch]
  | .ldAIndBC | .ldAIndDE => [.dataRead, .fetch]
  | .ldIndBCA | .ldIndDEA => [.dataWrite, .fetch]
  | .ldAIndHLI | .ldAIndHLD => [.dataRead, .fetch]
  | .ldIndHLIA | .ldIndHLDA => [.dataWrite, .fetch]
  | .ldADir => [.imm, .imm, .dataRead, .fetch]
  | .ldDirA => [.imm, .imm, .dataWrite, .fetch]
  | .ldhAImm => [.imm, .dataRead, .fetch]
  | .ldhImmA => [.imm, .dataWrite, .fetch]
  | .ldAHighC => [.dataRead, .fetch]
  | .ldHighCA => [.dataWrite, .fetch]
  | .ldPairImm _ => [.imm, .imm, .fetch]
  | .ldSPHL => [.internal, .fetch]
  | .ldDirSP => [.imm, .imm, .dataWrite, .dataWrite, .fetch]
  | .cpReg _ => [.fetch]
  | .cpIndHL => [.dataRead, .fetch]
  | .cpImm => [.imm, .fetch]
  | .incReg _ | .decReg _ => [.fetch]
  | .incIndHL | .decIndHL => [.dataRead, .dataWrite, .fetch]
  | .incPair _ | .decPair _ => [.internal, .fetch]
  | .rlReg _ => [.fetch]
  | .rlIndHL => [.dataRead, .dataWrite, .fetch]
  | .bitReg _ _ => [.fetch]
  | .bitIndHL _ => [.dataRead, .fetch]
  | .push _ => [.internal, .stackWrite, .stackWrite, .fetch]

/-- The cycles of an instruction's handler. -/
def Instr.cycles (i : Instr) : Nat := i.form.cycles

/-- The cycles of a whole instruction: PREFIX CB's cycle counts for a CB-table instruction (40_sequencer.md R96, R113). -/
def Instr.totalCycles (i : Instr) : Nat := (if i.prefixed then 1 else 0) + i.cycles

/-- The destination descriptor whose address a form's 8-bit data write goes to (40_sequencer.md R100, 20_memory.md R54). -/
def Form.storeDest : Form → Option Dest8
  | .ldIndHLReg _ | .ldIndHLImm | .incIndHL | .decIndHL | .rlIndHL => some (.ind .hl)
  | .ldIndBCA => some (.ind .bc)
  | .ldIndDEA => some (.ind .de)
  | .ldIndHLIA => some .indHLI
  | .ldIndHLDA => some .indHLD
  | .ldDirA => some .dir8
  | .ldhImmA => some .highImm
  | .ldHighCA => some .highC
  | .nop | .prefixCB | .ldRegReg _ _ | .ldRegImm _ | .ldRegIndHL _ | .ldAIndBC | .ldAIndDE | .ldAIndHLI | .ldAIndHLD
  | .ldADir | .ldhAImm | .ldAHighC | .ldPairImm _ | .ldSPHL | .ldDirSP | .cpReg _ | .cpIndHL | .cpImm | .incReg _
  | .decReg _ | .incPair _ | .decPair _ | .rlReg _ | .bitReg _ _ | .bitIndHL _ | .push _ => none

/-- The address the row about to run stores to, if it stores (20_memory.md R54). It is computed in the state on entry to the row,
with the functions the cycle tables use: `Dest8.address` for the 8-bit writes, scratch16 and scratch16 + 1 for LD (nn),SP,
`pushAddress` for PUSH. -/
def Instr.storeAddress (i : Instr) (s : State) : Option Word :=
  match i.form.busPattern[s.ctx.step]?, i.form with
  | some .stackWrite, .push _ => some s.pushAddress
  | some .dataWrite, .ldDirSP => some (if s.ctx.step = 2 then s.ctx.scratch16 else s.ctx.scratch16 + 1)
  | some .dataWrite, f => f.storeDest.bind (fun d => d.address s)
  | _, _ => none

/-- The address of the data read a form makes (20_memory.md R54). -/
def Form.loadAddress : Form → State → Option Word
  | .ldRegIndHL _, s | .ldAIndHLI, s | .ldAIndHLD, s | .cpIndHL, s | .incIndHL, s | .decIndHL, s | .rlIndHL, s
  | .bitIndHL _, s => some s.hl
  | .ldAIndBC, s => some (s.get16 .bc)
  | .ldAIndDE, s => some (s.get16 .de)
  | .ldADir, s | .ldhAImm, s => some s.ctx.scratch16
  | .ldAHighC, s => some (highPage s.regs.c)
  | .nop, _ | .prefixCB, _ | .ldRegReg _ _, _ | .ldRegImm _, _ | .ldIndHLReg _, _ | .ldIndHLImm, _ | .ldIndBCA, _
  | .ldIndDEA, _ | .ldIndHLIA, _ | .ldIndHLDA, _ | .ldDirA, _ | .ldhImmA, _ | .ldHighCA, _ | .ldPairImm _, _ | .ldSPHL, _
  | .ldDirSP, _ | .cpReg _, _ | .cpImm, _ | .incReg _, _ | .decReg _, _ | .incPair _, _ | .decPair _, _ | .rlReg _, _
  | .bitReg _ _, _ | .push _, _ => none

/-- The address the row about to run reads from, if it reads: pc for an opcode or immediate byte, else the data read's. -/
def Instr.readAddress (i : Instr) (s : State) : Option Word :=
  match i.form.busPattern[s.ctx.step]? with
  | some .fetch | some .cbFetch | some .imm => some s.regs.pc
  | some .dataRead => i.form.loadAddress s
  | _ => none

end Sys2Proof
end

