-- ==== Sys2Proof/Safety.lean ====
section
/-!
DEFINITION. The terms claims use: runs of several cycles, instruction boundaries (40_sequencer.md R97), the state in which a given
instruction is about to run, and the invariant every reachable state meets. A run that ends in a fault or a refusal has no
last state, so no claim about a last state is proved through one (60_exceptions.md R221: a faulted state is "never final").
-/

namespace Sys2Proof.Machine

/-- `n` calls of `advance_one_cycle`, stopping at the first fault or refusal. -/
def run : Nat → State → Host.Outcome State Fault Refusal
  | 0, s => .next s
  | n + 1, s =>
    match step s with
    | .next t => run n t
    | .fault r => .fault r
    | .refused r => .refused r

/-- At an instruction boundary: no fault, step 0, not prefixed (40_sequencer.md R97). -/
structure State.AtBoundary (s : State) : Prop where
  noFault : s.fault = none
  step0 : s.ctx.step = 0
  notPrefixed : s.ctx.prefixed = false

/-- Row c0 of an instruction runs next: no fault, f's low nibble clear, the instruction latched, step 0. For a CB-table
instruction this is the state after PREFIX CB's cycle. -/
structure State.ReadyFor (i : Instr) (s : State) : Prop where
  noFault : s.fault = none
  flagsOk : flagLowNibbleClear s.regs.f = true
  latch : s.latched = some i
  step0 : s.ctx.step = 0

/-- A whole instruction runs next, from a boundary: its opcode is latched, or for a CB-table instruction 0xCB is latched and
the bus answers its cb-opcode at pc (40_sequencer.md R97, R112, R113). PREFIX CB alone is no whole instruction. -/
structure State.WholeReady (i : Instr) (s : State) : Prop where
  boundary : s.AtBoundary
  flagsOk : flagLowNibbleClear s.regs.f = true
  whole : i ≠ .prefixCB
  latch : if i.prefixed then s.latched = some .prefixCB ∧ decode (s.busAnswer s.regs.pc) true = some i
    else s.latched = some i

/-- What holds of every reachable state: f's low nibble is 0 (10_state.md R30); the RAM is in canonical form; the step index is
inside the latched form's table, and 0 for an opcode with no handler (40_sequencer.md R99); scratch is clear at step 0
(40_sequencer.md R94, R112); a latched fault is that of the latched opcode and of pc (60_exceptions.md R220, R221). -/
structure State.Inv (s : State) : Prop where
  flagsOk : flagLowNibbleClear s.regs.f = true
  ramWf : s.bus.ram.wf = true
  stepInTable : ∀ i, s.latched = some i → s.ctx.step < i.cycles
  stepUnmapped : s.latched = none → s.ctx.step = 0
  scratchClear : s.ctx.step = 0 → s.ctx.scratch8 = 0 ∧ s.ctx.scratch16 = 0
  faultRecord : ∀ r, s.fault = some r →
    s.latched = none ∧ r = { prefixed := s.ctx.prefixed, opcode := s.ctx.opcode, pc := s.regs.pc }

/-- Reachable from a reset with some `BOOT_REGS`, some RAM in canonical form and some behaviour of the bus. -/
inductive Reachable : State → Prop where
  | reset (boot : Option BootRegs) (bus : Bus) (hb : bus.ram.wf = true) : Reachable (State.resetOn boot bus)
  | step {s t : State} (hs : Reachable s) (ht : step s = .next t) : Reachable t

end Sys2Proof.Machine
end

