-- ==== Sys2Proof/WellFormed.lean ====
section
/-!
DEFINITION. Which whole instructions are well formed. A row of the opcode table is well formed by construction: its operand
fields are inductive types with no illegal value. A whole instruction in memory has two checks: it has exactly the immediate
bytes its opcode calls for (30_encoding.md R76), and it is not the prefix byte alone, which is "the first cycle of a two-byte
instruction, not an instruction of its own" (90_conflicts.md C6).
-/

namespace Sys2Proof

/-- The bytes after the opcode are exactly the immediate bytes (R76). -/
def Code.immFits (c : Code) : Bool := c.imm.length == c.instr.immCount

/-- The prefix byte alone is no whole instruction (90_conflicts.md C6). -/
def Code.notPrefixAlone (c : Code) : Bool := decide (c.instr ≠ .prefixCB)

/-- A whole instruction is well formed. -/
def Code.wellFormed (c : Code) : Bool := c.immFits && c.notPrefixAlone

end Sys2Proof
end

