-- ==== Sys2Proof/Certificates/Slice0/Obligations.lean ====
section
/-!
DEFINITION. The statements for the provers. In the per-instruction statements the next state is written with the micro-operations of
the spec's cycle tables: `busAnswer`, `afterRead` and `busWrite` are the bus operations, `fetch` is FETCH, `advance` is
`ctx.step <- ctx.step + 1`; what each of those, and each register and context update, does to every field is stated on its own (the
first four statements). A register named `dst` or `src` ranges over the seven codes of 30_encoding.md R72, a pair over the four of
R73, so no form is left out.
-/

open Sys2Proof Sys2Proof.Machine

namespace Sys2Proof.Stated

/-- The 8-bit registers a form may write besides f (10_state.md R26 for a pair's halves). -/
def pairHalves : PairRR → List Reg8
  | .bc => [.b, .c]
  | .de => [.d, .e]
  | .hl => [.h, .l]
  | .sp => []

/-- The destination registers of a form, and hl where its addressing mode updates it (41_load8.md to 46_stack.md). -/
def destRegs : Form → List Reg8
  | .ldRegReg dst _ | .ldRegImm dst | .ldRegIndHL dst | .incReg dst | .decReg dst | .rlReg dst => [dst]
  | .ldAIndBC | .ldAIndDE | .ldADir | .ldhAImm | .ldAHighC => [.a]
  | .ldAIndHLI | .ldAIndHLD => [.a, .h, .l]
  | .ldIndHLIA | .ldIndHLDA => [.h, .l]
  | .ldPairImm rr | .incPair rr | .decPair rr => pairHalves rr
  | .nop | .prefixCB | .ldIndHLReg _ | .ldIndHLImm | .ldIndBCA | .ldIndDEA | .ldDirA | .ldhImmA | .ldHighCA | .ldSPHL
  | .ldDirSP | .cpReg _ | .cpIndHL | .cpImm | .incIndHL | .decIndHL | .rlIndHL | .bitReg _ _ | .bitIndHL _ | .push _ => []

/-- The forms that write sp (10_state.md R23). -/
def writesSp : Form → Bool
  | .ldPairImm .sp | .incPair .sp | .decPair .sp | .ldSPHL | .push _ => true
  | _ => false

/-- The flags a form writes (10_state.md R31). -/
def flagsWritten : Form → List Flag
  | .cpReg _ | .cpIndHL | .cpImm | .rlReg _ | .rlIndHL => [.z, .n, .h, .c]
  | .incReg _ | .incIndHL | .decReg _ | .decIndHL | .bitReg _ _ | .bitIndHL _ => [.z, .n, .h]
  | _ => []

/-- The bytes of a whole instruction in the opcode table's numbering (30_encoding.md R82, R84): 8 bits for an unprefixed row,
`0xCBxx` for a CB row. -/
def tableNumber (i : Instr) : Nat × Nat :=
  if i.prefixed then (16, 0xCB00 + i.opcode.toNat) else (8, i.opcode.toNat)

/-- Instructions that run one after another from a boundary: each is whole-ready where the one before it ends
(70_reset_and_hazards.md R257). -/
def FollowEachOther : List Instr → State → Prop
  | [], _ => True
  | i :: rest, s => s.WholeReady i ∧ ∀ t, run i.totalCycles s = .next t → FollowEachOther rest t

/-- The same core seen by the bus's outside: registers, context and fault latch. -/
def sameCore : Host.Outcome State Fault Refusal → Host.Outcome State Fault Refusal → Prop
  | .next t, .next u => t.regs = u.regs ∧ t.ctx = u.ctx ∧ t.fault = u.fault
  | .fault r, .fault q => r = q
  | .refused r, .refused q => r = q
  | _, _ => False

end Sys2Proof.Stated

open Sys2Proof.Stated

/-! ## Micro-operations -/

/-- FETCH (40_sequencer.md R94). -/
def Obligations.FetchReadsOpcodeAtPcAndResetsCursor : Prop :=
  ∀ s : State,
    s.fetch.ctx = { opcode := s.busAnswer s.regs.pc, prefixed := false, step := 0, scratch8 := 0, scratch16 := 0 } ∧
    s.fetch.regs = { s.regs with pc := s.regs.pc + 1 } ∧
    (s.regs.pc = 0xFFFF → s.fetch.regs.pc = 0x0000) ∧
    s.fetch.fault = s.fault ∧
    s.fetch.bus = (s.afterRead s.regs.pc).bus

/-- The two bus operations (20_memory.md R50 to R52). Over the flat RAM a read returns the byte most recently written and a write
touches one address; a scripted answer stands before the RAM for one read (log entry 1). Each access is one event, and neither
changes the core. -/
def Obligations.BusReadsReturnTheLastByteWritten : Prop :=
  (∀ (s : State) (a : Word) (v : Byte), s.bus.ram.wf = true → s.bus.answers = [] →
    (s.busWrite a v).busAnswer a = v ∧
    (∀ b, b ≠ a → (s.busWrite a v).busAnswer b = s.busAnswer b) ∧
    (∀ b c, (s.afterRead b).busAnswer c = s.busAnswer c)) ∧
  ∀ (s : State) (a : Word) (v : Byte),
    (∀ w rest, s.bus.answers = some w :: rest → s.busAnswer a = w) ∧
    (∀ rest, s.bus.answers = none :: rest → s.busAnswer a = s.bus.ram.read a) ∧
    (s.bus.answers = [] → s.busAnswer a = s.bus.ram.read a) ∧
    s.busWrite a v = { s with bus := { s.bus with
      ram := s.bus.ram.write a v
      events := s.bus.events ++ [{ kind := .write, address := a, data := v }] } } ∧
    s.afterRead a = { s with bus := { s.bus with
      answers := s.bus.answers.tail
      events := s.bus.events ++ [{ kind := .read, address := a, data := s.busAnswer a }] } }

/-- The registers behind the field codes (30_encoding.md R72, R73; 00_scope.md R13): reading or writing an 8-bit register reads or
writes that register and no other, and each pair field names its pair. The composite views and their writes (10_state.md R25,
R26): the first-named register is the high byte, and a write puts each half where the view reads it; bc joins b and c, never b and
b (90_conflicts.md C1). Each named update of the state writes its one field. -/
def Obligations.CompositeViewsJoinHighAndLowHalves : Prop :=
  (∀ g : Regs,
    (g.get16 .af).toNat = 256 * g.a.toNat + g.f.toNat ∧
    (g.get16 .bc).toNat = 256 * g.b.toNat + g.c.toNat ∧
    (g.get16 .de).toNat = 256 * g.d.toNat + g.e.toNat ∧
    (g.get16 .hl).toNat = 256 * g.h.toNat + g.l.toNat ∧
    g.get16 .sp = g.sp ∧
    (∀ v : Word, g.set16 .bc v = { g with b := BitVec.ofNat 8 (v.toNat / 256), c := BitVec.ofNat 8 v.toNat }) ∧
    (∀ v : Word, g.set16 .de v = { g with d := BitVec.ofNat 8 (v.toNat / 256), e := BitVec.ofNat 8 v.toNat }) ∧
    (∀ v : Word, g.set16 .hl v = { g with h := BitVec.ofNat 8 (v.toNat / 256), l := BitVec.ofNat 8 v.toNat }) ∧
    (∀ v : Word, g.set16 .af v = { g with a := BitVec.ofNat 8 (v.toNat / 256), f := BitVec.ofNat 8 v.toNat }) ∧
    (∀ v : Word, g.set16 .sp v = { g with sp := v })) ∧
  (∀ g : Regs,
    g.get8 .b = g.b ∧ g.get8 .c = g.c ∧ g.get8 .d = g.d ∧ g.get8 .e = g.e ∧ g.get8 .h = g.h ∧ g.get8 .l = g.l ∧
    g.get8 .a = g.a ∧
    ∀ v : Byte,
      g.set8 .b v = { g with b := v } ∧ g.set8 .c v = { g with c := v } ∧ g.set8 .d v = { g with d := v } ∧
      g.set8 .e v = { g with e := v } ∧ g.set8 .h v = { g with h := v } ∧ g.set8 .l v = { g with l := v } ∧
      g.set8 .a v = { g with a := v }) ∧
  (pairReg .bc = .bc ∧ pairReg .de = .de ∧ pairReg .hl = .hl ∧ pairReg .sp = .sp ∧
    pushReg .bc = .bc ∧ pushReg .de = .de ∧ pushReg .hl = .hl ∧ pushReg .af = .af) ∧
  (∀ (hi lo : Byte) (v : Word), (pairOf hi lo).toNat = 256 * hi.toNat + lo.toNat ∧
    (hiByte v).toNat = v.toNat / 256 ∧ (loByte v).toNat = v.toNat % 256) ∧
  ∀ (s : State) (v : Byte) (w : Word),
    (∀ r, s.get8 r = s.regs.get8 r ∧ s.set8 r v = { s with regs := s.regs.set8 r v }) ∧
    (∀ r, s.get16 r = s.regs.get16 r ∧ s.set16 r w = { s with regs := s.regs.set16 r w }) ∧
    s.hl = s.regs.get16 .hl ∧
    s.setF v = { s with regs := { s.regs with f := v } } ∧
    s.setPc w = { s with regs := { s.regs with pc := w } } ∧
    s.setScratch8 v = { s with ctx := { s.ctx with scratch8 := v } } ∧
    s.setScratch16 w = { s with ctx := { s.ctx with scratch16 := w } } ∧
    s.advance = { s with ctx := { s.ctx with step := s.ctx.step + 1 } }

/-- The flag getters and setters (10_state.md R28, R29): Z, N, H and C are bits 7, 6, 5 and 4 of f; a setter is a masked OR or AND at
its own bit, it preserves the other seven, and the order of two setters of different flags does not matter. -/
def Obligations.FlagSetterChangesOneBit : Prop :=
  (∀ f : Byte, getFlag .z f = f.getLsbD 7 ∧ getFlag .n f = f.getLsbD 6 ∧ getFlag .h f = f.getLsbD 5 ∧
    getFlag .c f = f.getLsbD 4) ∧
  (∀ p ∈ [(Flag.z, 7), (.n, 6), (.h, 5), (.c, 4)], ∀ f : Byte,
    setFlag p.1 true f = f ||| ((1 : Byte) <<< p.2) ∧ setFlag p.1 false f = f &&& ~~~((1 : Byte) <<< p.2) ∧
    ∀ v, (setFlag p.1 v f).getLsbD p.2 = v ∧ ∀ j, j ≠ p.2 → (setFlag p.1 v f).getLsbD j = f.getLsbD j) ∧
  ∀ (x y : Flag) (v w : Bool) (f : Byte), x ≠ y → setFlag x v (setFlag y w f) = setFlag y w (setFlag x v f)

/-! ## Flag functions -/

/-- `cp_flags` (43_compare.md R160): the four flags, and nothing but f's top nibble is written. -/
def Obligations.CompareSetsFlagsOfSubtraction : Prop :=
  ∀ (s : State) (v : Byte),
    s.compareA v = s.setF (cpFlags s.regs.a v s.regs.f) ∧
    s.compareA v = { s with regs := { s.regs with f := (s.compareA v).regs.f } } ∧
    (getFlag .z (s.compareA v).regs.f = true ↔ s.regs.a = v) ∧
    getFlag .n (s.compareA v).regs.f = true ∧
    (getFlag .h (s.compareA v).regs.f = true ↔ s.regs.a.toNat % 16 < v.toNat % 16) ∧
    (getFlag .c (s.compareA v).regs.f = true ↔ s.regs.a.toNat < v.toNat) ∧
    (s.compareA v).regs.f &&& 0x0F = s.regs.f &&& 0x0F

/-- `inc8` and `dec8` (44_incdec.md R168, R169): result modulo 256, Z, N, H; C and the low nibble unchanged. -/
def Obligations.IncDecResultAndFlags : Prop :=
  ∀ v f : Byte,
    (inc8 v).toNat = (v.toNat + 1) % 256 ∧
    (getFlag .z (inc8Flags v f) = true ↔ (v.toNat + 1) % 256 = 0) ∧
    getFlag .n (inc8Flags v f) = false ∧
    (getFlag .h (inc8Flags v f) = true ↔ v.toNat % 16 = 15) ∧
    getFlag .c (inc8Flags v f) = getFlag .c f ∧
    inc8Flags v f &&& 0x0F = f &&& 0x0F ∧
    (dec8 v).toNat = (v.toNat + 255) % 256 ∧
    (getFlag .z (dec8Flags v f) = true ↔ v.toNat = 1) ∧
    getFlag .n (dec8Flags v f) = true ∧
    (getFlag .h (dec8Flags v f) = true ↔ v.toNat % 16 = 0) ∧
    getFlag .c (dec8Flags v f) = getFlag .c f ∧
    dec8Flags v f &&& 0x0F = f &&& 0x0F

/-- `rl8` and `bit_test` (45_cb_rotate_bit.md R188, R189): new bit 0 is the old carry, the new carry the old bit 7; BIT's Z is
set iff the tested bit is 0 and C is not written. -/
def Obligations.RotateAndBitTestResultAndFlags : Prop :=
  ∀ v f : Byte,
    (rl8 v f).toNat = (2 * v.toNat + (getFlag .c f).toNat) % 256 ∧
    (getFlag .c (rl8Flags v f) = true ↔ 128 ≤ v.toNat) ∧
    (getFlag .z (rl8Flags v f) = true ↔ rl8 v f = 0) ∧
    getFlag .n (rl8Flags v f) = false ∧
    getFlag .h (rl8Flags v f) = false ∧
    rl8Flags v f &&& 0x0F = f &&& 0x0F ∧
    ∀ b : Fin 8,
      (getFlag .z (bitTestFlags b v f) = true ↔ v.toNat.testBit b.val = false) ∧
      getFlag .n (bitTestFlags b v f) = false ∧
      getFlag .h (bitTestFlags b v f) = true ∧
      getFlag .c (bitTestFlags b v f) = getFlag .c f ∧
      bitTestFlags b v f &&& 0x0F = f &&& 0x0F

/-! ## Cycle tables: for every operand, the instruction its encoding decodes to performs these rows -/

/-- NOP (40_sequencer.md R110). -/
def Obligations.NopOnlyFetches : Prop :=
  decode 0x00 false = some .nop ∧
  ∀ s : State, s.ctx.step = 0 →
    exec .nop s = .next
      { regs := { s.regs with pc := s.regs.pc + 1 }
        ctx := { opcode := s.busAnswer s.regs.pc, prefixed := false, step := 0, scratch8 := 0, scratch16 := 0 }
        fault := s.fault
        bus := { s.bus with
          answers := s.bus.answers.tail
          events := s.bus.events ++ [{ kind := .read, address := s.regs.pc, data := s.busAnswer s.regs.pc }] } }

/-- PREFIX CB (40_sequencer.md R112): scratch is left as it is, and a cb-opcode of 0xCB is no second prefix. -/
def Obligations.PrefixCbLatchesTheCbOpcode : Prop :=
  decode 0xCB false = some .prefixCB ∧ decode 0xCB true = none ∧
  ∀ s : State, s.ctx.step = 0 →
    exec .prefixCB s = .next
      { regs := { s.regs with pc := s.regs.pc + 1 }
        ctx := { s.ctx with opcode := s.busAnswer s.regs.pc, prefixed := true, step := 0 }
        fault := s.fault
        bus := { s.bus with
          answers := s.bus.answers.tail
          events := s.bus.events ++ [{ kind := .read, address := s.regs.pc, data := s.busAnswer s.regs.pc }] } }

/-- LD r,r' (41_load8.md R121): all 49 rows. -/
def Obligations.LoadRegisterFromRegister : Prop :=
  ∀ dst src : Reg8, ∃ i, decode (opXYZ 0b01 dst.code src.code) false = some i ∧
    ∀ s : State, s.ctx.step = 0 → exec i s = .next ((s.set8 dst (s.get8 src)).fetch)

/-- LD r,n (41_load8.md R122): all 7 rows. The register changes only in c1. -/
def Obligations.LoadRegisterFromImmediate : Prop :=
  ∀ dst : Reg8, ∃ i, decode (opXYZ 0b00 dst.code 0b110) false = some i ∧
    ∀ s : State,
      (s.ctx.step = 0 → exec i s =
        .next (((s.afterRead s.regs.pc).setScratch8 (s.busAnswer s.regs.pc)).setPc (s.regs.pc + 1)).advance) ∧
      (s.ctx.step = 1 → exec i s = .next ((s.set8 dst s.ctx.scratch8).fetch))

/-- LD r,(HL) (41_load8.md R123): all 7 rows, LD H,(HL) and LD L,(HL) among them. -/
def Obligations.LoadRegisterFromMemoryAtHl : Prop :=
  ∀ dst : Reg8, ∃ i, decode (opXYZ 0b01 dst.code 0b110) false = some i ∧
    ∀ s : State,
      (s.ctx.step = 0 → exec i s = .next ((s.afterRead s.hl).setScratch8 (s.busAnswer s.hl)).advance) ∧
      (s.ctx.step = 1 → exec i s = .next ((s.set8 dst s.ctx.scratch8).fetch))

/-- LD (HL),r and LD (HL),n (41_load8.md R124, R125): 7 rows and one. -/
def Obligations.StoreToMemoryAtHl : Prop :=
  (∀ src : Reg8, ∃ i, decode (opXYZ 0b01 0b110 src.code) false = some i ∧
    ∀ s : State,
      (s.ctx.step = 0 → exec i s = .next (s.busWrite s.hl (s.get8 src)).advance) ∧
      (s.ctx.step = 1 → exec i s = .next s.fetch)) ∧
  ∃ i, decode 0x36 false = some i ∧
    ∀ s : State,
      (s.ctx.step = 0 → exec i s =
        .next (((s.afterRead s.regs.pc).setScratch8 (s.busAnswer s.regs.pc)).setPc (s.regs.pc + 1)).advance) ∧
      (s.ctx.step = 1 → exec i s = .next (s.busWrite s.hl s.ctx.scratch8).advance) ∧
      (s.ctx.step = 2 → exec i s = .next s.fetch)

/-- LD A,(BC), LD A,(DE), LD (BC),A and LD (DE),A (41_load8.md R126 to R129). -/
def Obligations.LoadStoreAThroughBcOrDe : Prop :=
  (∀ p ∈ [((0x0A : Byte), Reg16.bc), (0x1A, Reg16.de)], ∃ i, decode p.1 false = some i ∧
    ∀ s : State,
      (s.ctx.step = 0 → exec i s =
        .next ((s.afterRead (s.get16 p.2)).setScratch8 (s.busAnswer (s.get16 p.2))).advance) ∧
      (s.ctx.step = 1 → exec i s = .next ((s.set8 .a s.ctx.scratch8).fetch))) ∧
  (∀ p ∈ [((0x02 : Byte), Reg16.bc), (0x12, Reg16.de)], ∃ i, decode p.1 false = some i ∧
    ∀ s : State,
      (s.ctx.step = 0 → exec i s = .next (s.busWrite (s.get16 p.2) s.regs.a).advance) ∧
      (s.ctx.step = 1 → exec i s = .next s.fetch))

/-- LD A,(HL+), LD A,(HL-), LD (HL+),A and LD (HL-),A (41_load8.md R130 to R133): hl moves in c0, after the access, by a 16-bit
wrap with no flag effect. -/
def Obligations.LoadStoreAThroughHlWithUpdate : Prop :=
  (∀ p ∈ [((0x2A : Byte), (1 : Word)), (0x3A, -1)], ∃ i, decode p.1 false = some i ∧
    ∀ s : State,
      (s.ctx.step = 0 → exec i s =
        .next (((s.afterRead s.hl).setScratch8 (s.busAnswer s.hl)).set16 .hl (s.hl + p.2)).advance) ∧
      (s.ctx.step = 1 → exec i s = .next ((s.set8 .a s.ctx.scratch8).fetch))) ∧
  (∀ p ∈ [((0x22 : Byte), (1 : Word)), (0x32, -1)], ∃ i, decode p.1 false = some i ∧
    ∀ s : State,
      (s.ctx.step = 0 → exec i s = .next ((s.busWrite s.hl s.regs.a).set16 .hl (s.hl + p.2)).advance) ∧
      (s.ctx.step = 1 → exec i s = .next s.fetch))

/-- LD A,(nn) and LD (nn),A (41_load8.md R134, R135): low immediate byte first. -/
def Obligations.LoadStoreAAtAbsoluteAddress : Prop :=
  ∃ ld st, decode 0xFA false = some ld ∧ decode 0xEA false = some st ∧
    ∀ s : State,
      (∀ i ∈ [ld, st],
        (s.ctx.step = 0 → exec i s = .next (((s.afterRead s.regs.pc).setScratch16
          (pairOf (hiByte s.ctx.scratch16) (s.busAnswer s.regs.pc))).setPc (s.regs.pc + 1)).advance) ∧
        (s.ctx.step = 1 → exec i s = .next (((s.afterRead s.regs.pc).setScratch16
          (pairOf (s.busAnswer s.regs.pc) (loByte s.ctx.scratch16))).setPc (s.regs.pc + 1)).advance)) ∧
      (s.ctx.step = 2 → exec ld s =
        .next ((s.afterRead s.ctx.scratch16).setScratch8 (s.busAnswer s.ctx.scratch16)).advance) ∧
      (s.ctx.step = 3 → exec ld s = .next ((s.set8 .a s.ctx.scratch8).fetch)) ∧
      (s.ctx.step = 2 → exec st s = .next (s.busWrite s.ctx.scratch16 s.regs.a).advance) ∧
      (s.ctx.step = 3 → exec st s = .next s.fetch)

/-- LDH A,(n), LDH (n),A, LD A,(C) and LD (C),A (41_load8.md R136 to R139): the address is in 0xFF00 to 0xFFFF. -/
def Obligations.LoadStoreAInHighPage : Prop :=
  (∀ x : Byte, (highPage x).toNat = 0xFF00 + x.toNat) ∧
  (∃ ld st, decode 0xF0 false = some ld ∧ decode 0xE0 false = some st ∧
    ∀ s : State,
      (∀ i ∈ [ld, st], s.ctx.step = 0 → exec i s = .next (((s.afterRead s.regs.pc).setScratch16
          (highPage (s.busAnswer s.regs.pc))).setPc (s.regs.pc + 1)).advance) ∧
      (s.ctx.step = 1 → exec ld s =
        .next ((s.afterRead s.ctx.scratch16).setScratch8 (s.busAnswer s.ctx.scratch16)).advance) ∧
      (s.ctx.step = 2 → exec ld s = .next ((s.set8 .a s.ctx.scratch8).fetch)) ∧
      (s.ctx.step = 1 → exec st s = .next (s.busWrite s.ctx.scratch16 s.regs.a).advance) ∧
      (s.ctx.step = 2 → exec st s = .next s.fetch)) ∧
  ∃ ld st, decode 0xF2 false = some ld ∧ decode 0xE2 false = some st ∧
    ∀ s : State,
      (s.ctx.step = 0 → exec ld s =
        .next ((s.afterRead (highPage s.regs.c)).setScratch8 (s.busAnswer (highPage s.regs.c))).advance) ∧
      (s.ctx.step = 1 → exec ld s = .next ((s.set8 .a s.ctx.scratch8).fetch)) ∧
      (s.ctx.step = 0 → exec st s = .next (s.busWrite (highPage s.regs.c) s.regs.a).advance) ∧
      (s.ctx.step = 1 → exec st s = .next s.fetch)

/-- LD rr,nn (42_load16.md R150): all 4 rows; both halves change together in c2. -/
def Obligations.LoadPairFromImmediate : Prop :=
  ∀ rr : PairRR, ∃ i, decode (opXP 0b00 rr.code 0b0001) false = some i ∧
    ∀ s : State,
      (s.ctx.step = 0 → exec i s = .next (((s.afterRead s.regs.pc).setScratch16
        (pairOf (hiByte s.ctx.scratch16) (s.busAnswer s.regs.pc))).setPc (s.regs.pc + 1)).advance) ∧
      (s.ctx.step = 1 → exec i s = .next (((s.afterRead s.regs.pc).setScratch16
        (pairOf (s.busAnswer s.regs.pc) (loByte s.ctx.scratch16))).setPc (s.regs.pc + 1)).advance) ∧
      (s.ctx.step = 2 → exec i s = .next ((s.set16 (pairReg rr) s.ctx.scratch16).fetch))

/-- LD SP,HL and LD (nn),SP (42_load16.md R151, R152): the copy happens in c0 with no bus access; the store puts the low byte at nn
and the high byte at nn+1. -/
def Obligations.LoadSpFromHlAndStoreSp : Prop :=
  (∃ i, decode 0xF9 false = some i ∧
    ∀ s : State,
      (s.ctx.step = 0 → exec i s = .next (s.set16 .sp s.hl).advance) ∧
      (s.ctx.step = 1 → exec i s = .next s.fetch)) ∧
  ∃ i, decode 0x08 false = some i ∧
    ∀ s : State,
      (s.ctx.step = 0 → exec i s = .next (((s.afterRead s.regs.pc).setScratch16
        (pairOf (hiByte s.ctx.scratch16) (s.busAnswer s.regs.pc))).setPc (s.regs.pc + 1)).advance) ∧
      (s.ctx.step = 1 → exec i s = .next (((s.afterRead s.regs.pc).setScratch16
        (pairOf (s.busAnswer s.regs.pc) (loByte s.ctx.scratch16))).setPc (s.regs.pc + 1)).advance) ∧
      (s.ctx.step = 2 → exec i s = .next (s.busWrite s.ctx.scratch16 (loByte s.regs.sp)).advance) ∧
      (s.ctx.step = 3 → exec i s = .next (s.busWrite (s.ctx.scratch16 + 1) (hiByte s.regs.sp)).advance) ∧
      (s.ctx.step = 4 → exec i s = .next s.fetch)

/-- CP r, CP (HL) and CP n (43_compare.md R161 to R163): 7 rows, one and one. Only f is written; what it becomes is
`Obligations.CompareSetsFlagsOfSubtraction`. -/
def Obligations.CompareWithEachSource : Prop :=
  (∀ src : Reg8, ∃ i, decode (opXYZ 0b10 0b111 src.code) false = some i ∧
    ∀ s : State, s.ctx.step = 0 → exec i s = .next ((s.setF (cpFlags s.regs.a (s.get8 src) s.regs.f)).fetch)) ∧
  (∃ i, decode 0xBE false = some i ∧ ∀ s : State,
    (s.ctx.step = 0 → exec i s = .next ((s.afterRead s.hl).setScratch8 (s.busAnswer s.hl)).advance) ∧
    (s.ctx.step = 1 → exec i s = .next ((s.setF (cpFlags s.regs.a s.ctx.scratch8 s.regs.f)).fetch))) ∧
  (∃ i, decode 0xFE false = some i ∧ ∀ s : State,
    (s.ctx.step = 0 → exec i s =
      .next (((s.afterRead s.regs.pc).setScratch8 (s.busAnswer s.regs.pc)).setPc (s.regs.pc + 1)).advance) ∧
    (s.ctx.step = 1 → exec i s = .next ((s.setF (cpFlags s.regs.a s.ctx.scratch8 s.regs.f)).fetch)))

/-- INC r and DEC r (44_incdec.md R170, R172): 7 rows each. -/
def Obligations.IncrementDecrementRegister : Prop :=
  ∀ dst : Reg8,
    (∃ i, decode (opXYZ 0b00 dst.code 0b100) false = some i ∧ ∀ s : State, s.ctx.step = 0 →
      exec i s = .next (((s.setF (inc8Flags (s.get8 dst) s.regs.f)).set8 dst (s.get8 dst + 1)).fetch)) ∧
    (∃ i, decode (opXYZ 0b00 dst.code 0b101) false = some i ∧ ∀ s : State, s.ctx.step = 0 →
      exec i s = .next (((s.setF (dec8Flags (s.get8 dst) s.regs.f)).set8 dst (s.get8 dst - 1)).fetch))

/-- INC (HL) and DEC (HL) (44_incdec.md R171, R173): the read and the write are separate bus events, the flags are written
in c1. -/
def Obligations.IncrementDecrementMemoryAtHl : Prop :=
  ∃ inc dec, decode 0x34 false = some inc ∧ decode 0x35 false = some dec ∧
    ∀ s : State,
      (∀ i ∈ [inc, dec],
        (s.ctx.step = 0 → exec i s = .next ((s.afterRead s.hl).setScratch8 (s.busAnswer s.hl)).advance) ∧
        (s.ctx.step = 2 → exec i s = .next s.fetch)) ∧
      (s.ctx.step = 1 → exec inc s = .next (((s.setF (inc8Flags s.ctx.scratch8 s.regs.f)).setScratch8
        (s.ctx.scratch8 + 1)).busWrite s.hl (s.ctx.scratch8 + 1)).advance) ∧
      (s.ctx.step = 1 → exec dec s = .next (((s.setF (dec8Flags s.ctx.scratch8 s.regs.f)).setScratch8
        (s.ctx.scratch8 - 1)).busWrite s.hl (s.ctx.scratch8 - 1)).advance)

/-- INC rr and DEC rr (44_incdec.md R174, R176, R177): 4 rows each; the pair changes in c0, no flag does. -/
def Obligations.IncrementDecrementPair : Prop :=
  ∀ rr : PairRR,
    (∃ i, decode (opXP 0b00 rr.code 0b0011) false = some i ∧ ∀ s : State,
      (s.ctx.step = 0 → exec i s = .next (s.set16 (pairReg rr) (s.get16 (pairReg rr) + 1)).advance) ∧
      (s.ctx.step = 1 → exec i s = .next s.fetch)) ∧
    (∃ i, decode (opXP 0b00 rr.code 0b1011) false = some i ∧ ∀ s : State,
      (s.ctx.step = 0 → exec i s = .next (s.set16 (pairReg rr) (s.get16 (pairReg rr) - 1)).advance) ∧
      (s.ctx.step = 1 → exec i s = .next s.fetch))

/-- RL r and RL (HL) (45_cb_rotate_bit.md R190, R191): 7 rows and one, in the CB table. -/
def Obligations.RotateLeftThroughCarry : Prop :=
  (∀ src : Reg8, ∃ i, decode (opXYZ 0b00 0b010 src.code) true = some i ∧ ∀ s : State, s.ctx.step = 0 →
    exec i s = .next (((s.setF (rl8Flags (s.get8 src) s.regs.f)).set8 src (rl8 (s.get8 src) s.regs.f)).fetch)) ∧
  ∃ i, decode 0x16 true = some i ∧ ∀ s : State,
    (s.ctx.step = 0 → exec i s = .next ((s.afterRead s.hl).setScratch8 (s.busAnswer s.hl)).advance) ∧
    (s.ctx.step = 1 → exec i s = .next (((s.setF (rl8Flags s.ctx.scratch8 s.regs.f)).setScratch8
      (rl8 s.ctx.scratch8 s.regs.f)).busWrite s.hl (rl8 s.ctx.scratch8 s.regs.f)).advance) ∧
    (s.ctx.step = 2 → exec i s = .next s.fetch)

/-- BIT b,r and BIT b,(HL) (45_cb_rotate_bit.md R192, R193): 56 rows and 8, in the CB table. -/
def Obligations.TestBitOfEachSource : Prop :=
  ∀ b : Fin 8,
    (∀ src : Reg8, ∃ i, decode (opXYZ 0b01 (bitCode b) src.code) true = some i ∧ ∀ s : State, s.ctx.step = 0 →
      exec i s = .next ((s.setF (bitTestFlags b (s.get8 src) s.regs.f)).fetch)) ∧
    ∃ i, decode (opXYZ 0b01 (bitCode b) 0b110) true = some i ∧ ∀ s : State,
      (s.ctx.step = 0 → exec i s = .next ((s.afterRead s.hl).setScratch8 (s.busAnswer s.hl)).advance) ∧
      (s.ctx.step = 1 → exec i s = .next ((s.setF (bitTestFlags b s.ctx.scratch8 s.regs.f)).fetch))

/-- PUSH qq (46_stack.md R210): all 4 rows; the value is captured in c0, the high byte goes out first. -/
def Obligations.PushPair : Prop :=
  ∀ qq : PairQQ, ∃ i, decode (opXP 0b11 qq.code 0b0101) false = some i ∧
    ∀ s : State,
      (s.ctx.step = 0 → exec i s = .next (s.setScratch16 (s.get16 (pushReg qq))).advance) ∧
      (s.ctx.step = 1 → exec i s = .next
        ((s.set16 .sp (s.regs.sp - 1)).busWrite (s.regs.sp - 1) (hiByte s.ctx.scratch16)).advance) ∧
      (s.ctx.step = 2 → exec i s = .next
        ((s.set16 .sp (s.regs.sp - 1)).busWrite (s.regs.sp - 1) (loByte s.ctx.scratch16)).advance) ∧
      (s.ctx.step = 3 → exec i s = .next s.fetch)

/-! ## Whole instructions: runs from row c0 to the next boundary -/

/-- A 16-bit immediate load, whole: three cycles, for every behaviour of the bus (42_load16.md R150, 20_memory.md R55). -/
def Obligations.LoadPairImmediateWholeRun : Prop :=
  ∀ (rr : PairRR) (i : Instr) (s : State), decode (opXP 0b00 rr.code 0b0001) false = some i → s.ReadyFor i →
    let s1 := s.afterRead s.regs.pc
    let s2 := s1.afterRead (s.regs.pc + 1)
    let nn := pairOf (s1.busAnswer (s.regs.pc + 1)) (s.busAnswer s.regs.pc)
    run 3 s = .next
      { regs := { s.regs.set16 (pairReg rr) nn with pc := s.regs.pc + 3 }
        ctx := { opcode := s2.busAnswer (s.regs.pc + 2), prefixed := false, step := 0, scratch8 := 0, scratch16 := 0 }
        fault := none
        bus := (s2.afterRead (s.regs.pc + 2)).bus }

/-- LD A,(nn) whole: four cycles, for every behaviour of the bus (41_load8.md R134). -/
def Obligations.LoadAAbsoluteWholeRun : Prop :=
  ∀ (i : Instr) (s : State), decode 0xFA false = some i → s.ReadyFor i →
    let s1 := s.afterRead s.regs.pc
    let s2 := s1.afterRead (s.regs.pc + 1)
    let nn := pairOf (s1.busAnswer (s.regs.pc + 1)) (s.busAnswer s.regs.pc)
    let s3 := s2.afterRead nn
    run 4 s = .next
      { regs := { s.regs with a := s2.busAnswer nn, pc := s.regs.pc + 3 }
        ctx := { opcode := s3.busAnswer (s.regs.pc + 2), prefixed := false, step := 0, scratch8 := 0, scratch16 := 0 }
        fault := none
        bus := (s3.afterRead (s.regs.pc + 2)).bus }

/-- INC (HL), DEC (HL) and RL (HL) whole, over the flat RAM: three cycles, one read, one write, then the fetch
(44_incdec.md R171, R173, 45_cb_rotate_bit.md R191). -/
def Obligations.ReadModifyWriteWholeRun : Prop :=
  ∀ (i : Instr) (s : State), s.bus.answers = [] → s.ReadyFor i →
    ∀ res flags : Byte → Byte → Byte,
      (i = .incIndHL ∧ res = (fun v _ => v + 1) ∧ flags = inc8Flags) ∨
      (i = .decIndHL ∧ res = (fun v _ => v - 1) ∧ flags = dec8Flags) ∨
      (i = .rlIndHL ∧ res = rl8 ∧ flags = rl8Flags) →
    let v := s.bus.ram.read s.hl
    let ram := s.bus.ram.write s.hl (res v s.regs.f)
    run 3 s = .next
      { regs := { s.regs with f := flags v s.regs.f, pc := s.regs.pc + 1 }
        ctx := { opcode := ram.read s.regs.pc, prefixed := false, step := 0, scratch8 := 0, scratch16 := 0 }
        fault := none
        bus := { ram := ram, answers := [],
                 events := s.bus.events ++
                   [{ kind := .read, address := s.hl, data := v },
                    { kind := .write, address := s.hl, data := res v s.regs.f },
                    { kind := .read, address := s.regs.pc, data := ram.read s.regs.pc }] } }

/-- PUSH qq whole, over the flat RAM (46_stack.md R210, the source's push vector): after four cycles sp is two lower, the high
byte stands at sp-1, the low byte at sp-2, every other byte and register is unchanged, and pc is one further. -/
def Obligations.PushWholeRunLeavesLittleEndianPair : Prop :=
  ∀ (qq : PairQQ) (i : Instr) (s : State), decode (opXP 0b11 qq.code 0b0101) false = some i →
    s.bus.answers = [] → s.bus.ram.wf = true → s.ReadyFor i →
    ∃ t, run 4 s = .next t ∧
      t.regs = { s.regs with sp := s.regs.sp - 2, pc := s.regs.pc + 1 } ∧
      t.bus.ram.read (s.regs.sp - 1) = hiByte (s.get16 (pushReg qq)) ∧
      t.bus.ram.read (s.regs.sp - 2) = loByte (s.get16 (pushReg qq)) ∧
      (∀ a, a ≠ s.regs.sp - 1 → a ≠ s.regs.sp - 2 → t.bus.ram.read a = s.bus.ram.read a)

/-- Fetch is coherent with stores (20_memory.md R63): LD (HL),r to the address of the next opcode, over the flat RAM, makes the
stored byte the next opcode; LD (HL),n likewise with its immediate. -/
def Obligations.StoreToNextOpcodeIsFetched : Prop :=
  (∀ (src : Reg8) (i : Instr) (s : State), decode (opXYZ 0b01 0b110 src.code) false = some i →
    s.bus.answers = [] → s.bus.ram.wf = true → s.ReadyFor i → s.hl = s.regs.pc →
    ∃ t, run 2 s = .next t ∧ t.ctx.opcode = s.get8 src ∧ t.AtBoundary) ∧
  (∀ (i : Instr) (s : State), decode 0x36 false = some i →
    s.bus.answers = [] → s.bus.ram.wf = true → s.ReadyFor i → s.hl = s.regs.pc + 1 →
    ∃ t, run 3 s = .next t ∧ t.ctx.opcode = s.bus.ram.read s.regs.pc ∧ t.AtBoundary)

/-- A whole instruction, CB-table ones with their prefix, runs in exactly its number of cycles to the next boundary, whose opcode
was read at the address after its last byte (40_sequencer.md R95, R96, R106, R113). -/
def Obligations.WholeInstructionReachesTheNextBoundary : Prop :=
  ∀ (i : Instr) (s : State), s.WholeReady i →
    ∃ t, run i.totalCycles s = .next t ∧ t.AtBoundary ∧ flagLowNibbleClear t.regs.f = true ∧
      t.regs.pc = s.regs.pc + BitVec.ofNat 16 i.length ∧
      ∃ es, t.bus.events = s.bus.events ++ es ++
        [{ kind := .read, address := s.regs.pc + BitVec.ofNat 16 i.length - 1, data := t.ctx.opcode }]

/-- The cycle count of a straight-line run is the sum of the instructions' cycles (70_reset_and_hazards.md R257). -/
def Obligations.StraightLineRunTakesTheSumOfCycles : Prop :=
  ∀ (is : List Instr) (s : State), s.AtBoundary → FollowEachOther is s →
    ∃ t, run ((is.map Instr.totalCycles).sum) s = .next t ∧ t.AtBoundary ∧
      t.regs.pc = s.regs.pc + BitVec.ofNat 16 ((is.map Instr.length).sum)

/-! ## Every instruction -/

/-- Each row but the last advances the step and leaves the latch alone; the last row of every handler but PREFIX CB ends with
FETCH, after every other effect and with no other bus access; PREFIX CB's row is no FETCH (40_sequencer.md R95). So every
instruction completes, at every step its table has. -/
def Obligations.EveryRowCompletesAndOnlyTheLastFetches : Prop :=
  (∀ (i : Instr) (s : State), i ≠ .prefixCB →
    (s.ctx.step + 1 < i.cycles → ∃ t, exec i s = .next t ∧ t.ctx.step = s.ctx.step + 1 ∧
      t.ctx.opcode = s.ctx.opcode ∧ t.ctx.prefixed = s.ctx.prefixed) ∧
    (s.ctx.step + 1 = i.cycles → ∃ u : State, exec i s = .next u.fetch ∧ u.bus = s.bus ∧ u.regs.pc = s.regs.pc)) ∧
  ∀ s : State, s.ctx.step = 0 → ∃ t, exec .prefixCB s = .next t ∧ t.ctx.prefixed = true ∧ ∀ u : State, t ≠ u.fetch

/-- A step index at or above the row count is refused (40_sequencer.md R99, 93_implementation_defined.md U6). -/
def Obligations.StepPastTheLastRowIsRefused : Prop :=
  ∀ (i : Instr) (s : State), i.cycles ≤ s.ctx.step → exec i s = .refused .stepPastLastRow

/-- Each cycle of each form does on the bus exactly what the timing table says (70_reset_and_hazards.md R256): one read at the
slot's address, one write at the slot's address, or nothing; the pattern has a slot for each cycle. -/
def Obligations.BusPatternFollowsTheTimingTable : Prop :=
  ∀ (i : Instr), i.form.busPattern.length = i.cycles ∧
    ∀ (s t : State), exec i s = .next t →
      ∃ slot, i.form.busPattern[s.ctx.step]? = some slot ∧
        (slot = .internal → t.bus = s.bus) ∧
        (slot = .dataWrite ∨ slot = .stackWrite → ∃ a v, i.storeAddress s = some a ∧ t.bus = (s.busWrite a v).bus) ∧
        (slot ≠ .internal → slot ≠ .dataWrite → slot ≠ .stackWrite →
          ∃ a, i.readAddress s = some a ∧ t.bus = (s.afterRead a).bus)

/-- At most one bus access a cycle, whatever the state (40_sequencer.md R93): a step adds at most one event. -/
def Obligations.AtMostOneBusEventPerCycle : Prop :=
  ∀ s t : State, step s = .next t → t.bus.events = s.bus.events ∨ ∃ e, t.bus.events = s.bus.events ++ [e]

/-- Memory frame: a row changes no byte but the one it stores to, whose address is computed as the cycle tables compute it; where
it stores nothing, no byte changes (20_memory.md R54, R60). -/
def Obligations.RowsStoreOnlyAtTheStoreAddress : Prop :=
  ∀ (i : Instr) (s t : State), exec i s = .next t →
    ∀ a, i.storeAddress s ≠ some a → t.bus.ram.read a = s.bus.ram.read a

/-- Register frame: a row leaves every 8-bit register alone but the form's destinations and the hl an addressing mode updates, sp
but for the forms that write it, and the fault latch always (10_state.md R21, R23; 60_exceptions.md R225). -/
def Obligations.RowsWriteOnlyTheFormsRegisters : Prop :=
  ∀ (i : Instr) (s t : State), exec i s = .next t →
    (∀ r, r ∉ destRegs i.form → t.get8 r = s.get8 r) ∧
    (writesSp i.form = false → t.regs.sp = s.regs.sp) ∧
    t.fault = s.fault

/-- Flag frame: a row changes no flag but those the flag table lists for its form, and never the low nibble of f
(10_state.md R30, R31). -/
def Obligations.RowsWriteOnlyTheFormsFlags : Prop :=
  ∀ (i : Instr) (s t : State), exec i s = .next t →
    (∀ x, x ∉ flagsWritten i.form → getFlag x t.regs.f = getFlag x s.regs.f) ∧
    t.regs.f &&& 0x0F = s.regs.f &&& 0x0F

/-- The program counter moves by one in a cycle that reads at pc and stands still in every other (10_state.md R22). -/
def Obligations.PcAdvancesOnlyWithReadsAtPc : Prop :=
  ∀ (i : Instr) (s t : State), exec i s = .next t →
    t.regs.pc = s.regs.pc + (match i.form.busPattern[s.ctx.step]? with
      | some .fetch | some .cbFetch | some .imm => 1
      | _ => 0)

/-! ## Encoding -/

/-- Decoding reads back what encoding writes, for every whole instruction with every immediate, whatever follows it in memory
(30_encoding.md R70, R76, R77, R82). -/
def Obligations.DecodeBytesOfEncodeGivesItBack : Prop :=
  ∀ (c : Code) (rest : List Byte), c.wellFormed = true → decodeBytes (encode c ++ rest) = .ok (c, rest)

/-- What decoding reads from bytes, encoding writes: no two encodings mean one instruction (30_encoding.md R82). -/
def Obligations.EncodeOfDecodedBytesGivesThemBack : Prop :=
  ∀ (bs rest : List Byte) (c : Code), decodeBytes bs = .ok (c, rest) → c.wellFormed = true ∧ encode c ++ rest = bs

/-- The dispatcher's map and the encoding patterns are the same relation: a pair of opcode and prefix bit selects an instruction
exactly when it is that instruction's encoding, so at most one row matches (30_encoding.md R82, 40_sequencer.md R98). -/
def Obligations.DispatcherMatchesExactlyTheEncoding : Prop :=
  ∀ (op : Byte) (p : Bool) (i : Instr), decode op p = some i ↔ encodeOp i = (op, p)

/-- The encodings with no handler (30_encoding.md R79 to R81), the whole of both tables: an unprefixed byte has none exactly when it
is outside the admitted subset of R77, written out here family by family, a CB-table byte exactly when it is not 0x10 to 0x17 or
0x40 to 0x7F. 0x76 and the eleven bytes the SM83 leaves unassigned are among the former. -/
def Obligations.UnmappedEncodingsAreRejected : Prop :=
  (∀ op : Byte, decode op false = none ↔
    ¬ (op ∈ ([0x00, 0xCB] : List Byte) ∨
      ((0x40 ≤ op.toNat ∧ op.toNat ≤ 0x7F) ∧ op ≠ 0x76) ∨
      op ∈ ([0x06, 0x0E, 0x16, 0x1E, 0x26, 0x2E, 0x3E, 0x36, 0x0A, 0x1A, 0x02, 0x12, 0x2A, 0x3A, 0x22, 0x32] : List Byte) ∨
      op ∈ ([0xFA, 0xEA, 0xF0, 0xE0, 0xF2, 0xE2] : List Byte) ∨
      op ∈ ([0x01, 0x11, 0x21, 0x31, 0xF9, 0x08] : List Byte) ∨
      (0xB8 ≤ op.toNat ∧ op.toNat ≤ 0xBF) ∨ op = 0xFE ∨
      op ∈ ([0x04, 0x0C, 0x14, 0x1C, 0x24, 0x2C, 0x3C, 0x34, 0x05, 0x0D, 0x15, 0x1D, 0x25, 0x2D, 0x3D, 0x35] : List Byte) ∨
      op ∈ ([0x03, 0x13, 0x23, 0x33, 0x0B, 0x1B, 0x2B, 0x3B] : List Byte) ∨
      op ∈ ([0xC5, 0xD5, 0xE5, 0xF5] : List Byte))) ∧
  (∀ op : Byte, decode op true = none ↔
    ¬ ((0x10 ≤ op.toNat ∧ op.toNat ≤ 0x17) ∨ (0x40 ≤ op.toNat ∧ op.toNat ≤ 0x7F))) ∧
  decode 0x76 false = none ∧
  ∀ op ∈ ([0xD3, 0xDB, 0xDD, 0xE3, 0xE4, 0xEB, 0xEC, 0xED, 0xF4, 0xFC, 0xFD] : List Byte), decode op false = none

/-- Words written out from the opcode table decode to their instructions, one of each family; the register, pair and bit codes are
those of 30_encoding.md R72 to R74. -/
def Obligations.SampleWordsDecodeAsTheTableSays : Prop :=
  decode 0b00000000 false = some .nop ∧ decode 0b11001011 false = some .prefixCB ∧
  decode 0b01000001 false = some .ldBC ∧ decode 0b00110001 false = some .ldSPNn ∧
  decode 0b10111110 false = some .cpIndHL ∧ decode 0b00110101 false = some .decIndHL ∧
  decode 0b00011011 false = some .decDE ∧ decode 0b00010111 true = some .rlA ∧
  decode 0b01111100 true = some .bit7H ∧ decode 0b11110101 false = some .pushAF ∧
  Reg8.code .b = 0 ∧ Reg8.code .c = 1 ∧ Reg8.code .d = 2 ∧ Reg8.code .e = 3 ∧ Reg8.code .h = 4 ∧ Reg8.code .l = 5 ∧
  indHLCode = 6 ∧ Reg8.code .a = 7 ∧
  PairRR.code .bc = 0 ∧ PairRR.code .de = 1 ∧ PairRR.code .hl = 2 ∧ PairRR.code .sp = 3 ∧
  PairQQ.code .bc = 0 ∧ PairQQ.code .de = 1 ∧ PairQQ.code .hl = 2 ∧ PairQQ.code .af = 3 ∧
  ∀ b : Fin 8, (bitCode b).toNat = b.val

/-- The opcode table's number of every row is read as that row's instruction, and from any state with a clear low nibble the step
after placing it is that instruction's row c0. The numbering of CB rows and the placing are the model's (log entries 5, 6). -/
def Obligations.TableNumberIsFetchedAndRun : Prop :=
  ∀ (i : Instr), decodeTableWord (tableNumber i).1 (tableNumber i).2 = some i ∧
    ∀ s : State, flagLowNibbleClear s.regs.f = true →
      (s.withFetchWord (tableNumber i).1 (tableNumber i).2).ReadyFor i ∧
      step (s.withFetchWord (tableNumber i).1 (tableNumber i).2) =
        exec i (s.withFetchWord (tableNumber i).1 (tableNumber i).2)

/-! ## The step, the fatal fault and reset -/

/-- One cycle (40_sequencer.md R92): a latched fault returns; an opcode with no handler faults; else the latched instruction's row
is performed. A state whose f has a nonzero low nibble is no state of the hardware and is refused
(93_implementation_defined.md U2, log entry 8). -/
def Obligations.StepRunsTheLatchedInstruction : Prop :=
  ∀ s : State,
    (∀ r, s.fault = some r → step s = .fault (.fatalFault r)) ∧
    (∀ i, s.fault = none → s.regs.f &&& 0x0F = 0 → decode s.ctx.opcode s.ctx.prefixed = some i → step s = exec i s) ∧
    (s.fault = none → s.regs.f &&& 0x0F = 0 → decode s.ctx.opcode s.ctx.prefixed = none → step s = .next s.raiseFatalFault) ∧
    (s.fault = none → s.regs.f &&& 0x0F ≠ 0 → step s = .refused .flagLowNibbleSet)

/-- Fetched bytes are the instruction that runs: when the bytes of the flat RAM from pc up decode to a whole instruction, the state
after FETCH is ready for it, and the step from there is the latched instruction's: the decoded one, or PREFIX CB for a CB-table one
(30_encoding.md R70, R81; 40_sequencer.md R92, R94). -/
def Obligations.BytesAtPcAreFetchedAndRun : Prop :=
  ∀ (s : State) (c : Code) (rest : List Byte),
    s.fault = none → s.regs.f &&& 0x0F = 0 → s.bus.answers = [] →
    decodeBytes [s.bus.ram.read s.regs.pc, s.bus.ram.read (s.regs.pc + 1), s.bus.ram.read (s.regs.pc + 2)] = .ok (c, rest) →
    s.fetch.WholeReady c.instr ∧
    step s.fetch = exec (if c.instr.prefixed then .prefixCB else c.instr) s.fetch ∧
    c.imm = (if c.instr.immCount = 0 then []
      else if c.instr.immCount = 1 then [s.bus.ram.read (s.regs.pc + 1)]
      else [s.bus.ram.read (s.regs.pc + 1), s.bus.ram.read (s.regs.pc + 2)])

/-- The fatal fault (60_exceptions.md R220): the latch is set to the prefix bit, the opcode and pc, with cause code 1, and nothing
else changes; no bus access is made. -/
def Obligations.UnmappedOpcodeRaisesFatalFault : Prop :=
  ∀ s : State, s.fault = none → flagLowNibbleClear s.regs.f = true → decode s.ctx.opcode s.ctx.prefixed = none →
    ∃ t r, step s = .next t ∧ t.fault = some r ∧
      r.prefixed = s.ctx.prefixed ∧ r.opcode = s.ctx.opcode ∧ r.pc = s.regs.pc ∧ r.cause.code = 1 ∧
      t.regs = s.regs ∧ t.ctx = s.ctx ∧ t.bus = s.bus

/-- The faulted state is terminal and quiescent, and reset is the only way out (60_exceptions.md R221): the step has no next state,
and reset clears the latch. -/
def Obligations.LatchedFaultIsTerminalUntilReset : Prop :=
  ∀ (s : State) (r : FaultRecord), s.fault = some r →
    step s = .fault (.fatalFault r) ∧ (∀ n t, run (n + 1) s ≠ .next t) ∧ ∀ boot, (s.resetCore boot).fault = none

/-- What `advance_one_cycle` returns (40_sequencer.md R91): `Fault` in the cycle that raises the fault and in every later call, `Ok`
otherwise. -/
def Obligations.ReturnedValueReportsTheFault : Prop :=
  ∀ s : State, s.Inv →
    returnedResult (step s) = some (match s.fault, s.latched with
      | some r, _ => .fault r
      | none, none => .fault { prefixed := s.ctx.prefixed, opcode := s.ctx.opcode, pc := s.regs.pc }
      | none, some _ => .ok)

/-- After PREFIX CB's cycle row c0 of the CB-table instruction runs next; a cb-opcode with no handler, 0xCB among them, faults in
the cycle after, with the prefix bit set and pc after both bytes (30_encoding.md R81, 40_sequencer.md R112). -/
def Obligations.PrefixCbLeadsToTheCbTable : Prop :=
  ∀ s : State, s.AtBoundary → flagLowNibbleClear s.regs.f = true → s.ctx.opcode = 0xCB →
    (∀ i, decode (s.busAnswer s.regs.pc) true = some i →
      ∃ t, step s = .next t ∧ t.ReadyFor i ∧ t.regs = { s.regs with pc := s.regs.pc + 1 } ∧ ¬ t.AtBoundary) ∧
    (decode (s.busAnswer s.regs.pc) true = none →
      ∃ t, run 2 s = .next t ∧
        t.fault = some { prefixed := true, opcode := s.busAnswer s.regs.pc, pc := s.regs.pc + 1 }) ∧
    (s.busAnswer s.regs.pc = 0xCB →
      ∃ t, run 2 s = .next t ∧ t.fault = some { prefixed := true, opcode := 0xCB, pc := s.regs.pc + 1 })

/-- Reset (70_reset_and_hazards.md R250, 10_state.md R42): every piece of core state, with or without `BOOT_REGS`; no bus access.
Two clauses are the model's choice: `State.reset` is this reset with `BOOT_REGS` absent, its default (log entry 3), and the bus is
kept as it stands (log entry 11). -/
def Obligations.ResetPutsEveryPieceOfStateToItsValue : Prop :=
  ∀ (boot : Option BootRegs) (s : State),
    (s.resetCore boot).ctx = { opcode := 0x00, prefixed := false, step := 0, scratch8 := 0, scratch16 := 0 } ∧
    (s.resetCore boot).fault = none ∧ (s.resetCore boot).bus = s.bus ∧
    (boot = none → (s.resetCore boot).regs =
      { a := 0, f := 0, b := 0, c := 0, d := 0, e := 0, h := 0, l := 0, sp := 0, pc := 0 }) ∧
    (∀ r, boot = some r → (s.resetCore boot).regs =
      { a := r.a, f := r.f &&& 0xF0, b := r.b, c := r.c, d := r.d, e := r.e, h := r.h, l := r.l, sp := r.sp,
        pc := r.pc }) ∧
    ∃ bus, State.reset = State.resetOn none bus

/-- The first cycle after reset performs the latched NOP's FETCH from the reset pc (70_reset_and_hazards.md section 1). -/
def Obligations.FirstCycleFetchesAtResetPc : Prop :=
  ∀ (boot : Option BootRegs) (bus : Bus),
    let s := State.resetOn boot bus
    s.AtBoundary ∧ step s = .next s.fetch ∧ (run 1 s = .next s.fetch ∧ s.fetch.ctx.opcode = s.busAnswer s.regs.pc)

/-- The invariant holds after every reset whose RAM is in canonical form. -/
def Obligations.ResetMeetsTheInvariant : Prop :=
  ∀ (boot : Option BootRegs) (bus : Bus), bus.ram.wf = true → (State.resetOn boot bus).Inv

/-- Every step keeps the invariant: f's low nibble 0, the RAM canonical, the step index inside the table, scratch clear at
step 0, the fault record true (10_state.md R30, 40_sequencer.md R99, 60_exceptions.md R222). -/
def Obligations.EveryStepKeepsTheInvariant : Prop :=
  ∀ s t : State, s.Inv → step s = .next t → t.Inv

/-- The machine runs until it faults (60_exceptions.md R223, R233; 10_state.md R34). Every reachable state meets the invariant; from
every state that meets it the step is never refused, and if no fault is latched the step has a next state; so both hold of every
reachable state. -/
def Obligations.ReachableStatesNeverGetStuck : Prop :=
  (∀ s : State, Reachable s → s.Inv) ∧
  (∀ s : State, s.Inv → s.ctx.step ≤ 4 ∧ s.regs.f &&& 0x0F = 0 ∧
    (∀ r, step s ≠ .refused r) ∧ (s.fault = none → ∃ t, step s = .next t)) ∧
  ∀ s : State, Reachable s → s.ctx.step ≤ 4 ∧ s.regs.f &&& 0x0F = 0 ∧
    (∀ r, step s ≠ .refused r) ∧ (s.fault = none → ∃ t, step s = .next t)

/-- The core sees the bus only through its answers (20_memory.md R51): two states with the same core and the same scripted answer to
the next read make the same core step, whatever the RAMs hold. -/
def Obligations.CoreSeesTheBusOnlyThroughAnswers : Prop :=
  ∀ (s t : State) (v : Byte), s.regs = t.regs → s.ctx = t.ctx → s.fault = t.fault →
    s.bus.answers.head? = some (some v) → t.bus.answers.head? = some (some v) → sameCore (step s) (step t)

/-- Canonical form: two RAMs in it that read alike are equal (20_memory.md R53). -/
def Obligations.CanonicalMemoriesThatReadAlikeAreEqual : Prop :=
  ∀ m n : Memory, m.wf = true → n.wf = true → (∀ a : Word, m.read a = n.read a) → m = n
end

