-- ==== Sys2Proof/Laws/State.lean ====
section
/-!
SUPPORT. One lemma per field per update, so that no proof unfolds a record update: what each named update of State leaves in each
field. All hold by definition.
-/

namespace Sys2Proof.Machine

/-! ## Register file updates -/

@[simp] theorem Regs.set8_f (g : Regs) (r : Reg8) (v : Byte) : (g.set8 r v).f = g.f := by cases r <;> rfl
@[simp] theorem Regs.set8_sp (g : Regs) (r : Reg8) (v : Byte) : (g.set8 r v).sp = g.sp := by cases r <;> rfl
@[simp] theorem Regs.set8_pc (g : Regs) (r : Reg8) (v : Byte) : (g.set8 r v).pc = g.pc := by cases r <;> rfl
@[simp] theorem Regs.set16_pc (g : Regs) (r : Reg16) (v : Word) : (g.set16 r v).pc = g.pc := by cases r <;> rfl
theorem Regs.set16_f (g : Regs) (r : Reg16) (v : Word) (h : r ≠ .af) : (g.set16 r v).f = g.f := by cases r <;> first | rfl | exact absurd rfl h
@[simp] theorem pairReg_ne_af (rr : PairRR) : pairReg rr ≠ .af := by cases rr <;> decide
@[simp] theorem Regs.set16_pairReg_f (g : Regs) (rr : PairRR) (v : Word) : (g.set16 (pairReg rr) v).f = g.f := by cases rr <;> rfl
@[simp] theorem Regs.set16_hl_f (g : Regs) (v : Word) : (g.set16 .hl v).f = g.f := rfl
@[simp] theorem Regs.set16_sp_f (g : Regs) (v : Word) : (g.set16 .sp v).f = g.f := rfl
@[simp] theorem Regs.get8_set8_same (g : Regs) (r : Reg8) (v : Byte) : (g.set8 r v).get8 r = v := by cases r <;> rfl
theorem Regs.get8_set8_other (g : Regs) (r q : Reg8) (v : Byte) (h : q ≠ r) : (g.set8 r v).get8 q = g.get8 q := by
  cases r <;> cases q <;> first | rfl | exact absurd rfl h

/-! ## set8 -/

@[simp] theorem State.set8_regs (s : State) (r : Reg8) (v : Byte) : (s.set8 r v).regs = s.regs.set8 r v := rfl
@[simp] theorem State.set8_ctx (s : State) (r : Reg8) (v : Byte) : (s.set8 r v).ctx = s.ctx := rfl
@[simp] theorem State.set8_fault (s : State) (r : Reg8) (v : Byte) : (s.set8 r v).fault = s.fault := rfl
@[simp] theorem State.set8_bus (s : State) (r : Reg8) (v : Byte) : (s.set8 r v).bus = s.bus := rfl

/-! ## set16 -/

@[simp] theorem State.set16_regs (s : State) (r : Reg16) (v : Word) : (s.set16 r v).regs = s.regs.set16 r v := rfl
@[simp] theorem State.set16_ctx (s : State) (r : Reg16) (v : Word) : (s.set16 r v).ctx = s.ctx := rfl
@[simp] theorem State.set16_fault (s : State) (r : Reg16) (v : Word) : (s.set16 r v).fault = s.fault := rfl
@[simp] theorem State.set16_bus (s : State) (r : Reg16) (v : Word) : (s.set16 r v).bus = s.bus := rfl

/-! ## setF -/

@[simp] theorem State.setF_regs (s : State) (v : Byte) : (s.setF v).regs = { s.regs with f := v } := rfl
@[simp] theorem State.setF_ctx (s : State) (v : Byte) : (s.setF v).ctx = s.ctx := rfl
@[simp] theorem State.setF_fault (s : State) (v : Byte) : (s.setF v).fault = s.fault := rfl
@[simp] theorem State.setF_bus (s : State) (v : Byte) : (s.setF v).bus = s.bus := rfl

/-! ## setPc -/

@[simp] theorem State.setPc_regs (s : State) (v : Word) : (s.setPc v).regs = { s.regs with pc := v } := rfl
@[simp] theorem State.setPc_ctx (s : State) (v : Word) : (s.setPc v).ctx = s.ctx := rfl
@[simp] theorem State.setPc_fault (s : State) (v : Word) : (s.setPc v).fault = s.fault := rfl
@[simp] theorem State.setPc_bus (s : State) (v : Word) : (s.setPc v).bus = s.bus := rfl

/-! ## setScratch8 -/

@[simp] theorem State.setScratch8_regs (s : State) (v : Byte) : (s.setScratch8 v).regs = s.regs := rfl
@[simp] theorem State.setScratch8_ctx (s : State) (v : Byte) : (s.setScratch8 v).ctx = { s.ctx with scratch8 := v } := rfl
@[simp] theorem State.setScratch8_fault (s : State) (v : Byte) : (s.setScratch8 v).fault = s.fault := rfl
@[simp] theorem State.setScratch8_bus (s : State) (v : Byte) : (s.setScratch8 v).bus = s.bus := rfl

/-! ## setScratch16 -/

@[simp] theorem State.setScratch16_regs (s : State) (v : Word) : (s.setScratch16 v).regs = s.regs := rfl
@[simp] theorem State.setScratch16_ctx (s : State) (v : Word) : (s.setScratch16 v).ctx = { s.ctx with scratch16 := v } := rfl
@[simp] theorem State.setScratch16_fault (s : State) (v : Word) : (s.setScratch16 v).fault = s.fault := rfl
@[simp] theorem State.setScratch16_bus (s : State) (v : Word) : (s.setScratch16 v).bus = s.bus := rfl

/-! ## advance -/

@[simp] theorem State.advance_regs (s : State) : (s.advance).regs = s.regs := rfl
@[simp] theorem State.advance_ctx (s : State) : (s.advance).ctx = { s.ctx with step := s.ctx.step + 1 } := rfl
@[simp] theorem State.advance_fault (s : State) : (s.advance).fault = s.fault := rfl
@[simp] theorem State.advance_bus (s : State) : (s.advance).bus = s.bus := rfl

/-! ## afterRead -/

@[simp] theorem State.afterRead_regs (s : State) (a : Word) : (s.afterRead a).regs = s.regs := rfl
@[simp] theorem State.afterRead_ctx (s : State) (a : Word) : (s.afterRead a).ctx = s.ctx := rfl
@[simp] theorem State.afterRead_fault (s : State) (a : Word) : (s.afterRead a).fault = s.fault := rfl
@[simp] theorem State.afterRead_ram (s : State) (a : Word) : (s.afterRead a).bus.ram = s.bus.ram := rfl
@[simp] theorem State.afterRead_answers (s : State) (a : Word) : (s.afterRead a).bus.answers = s.bus.answers.tail := rfl
@[simp] theorem State.afterRead_events (s : State) (a : Word) : (s.afterRead a).bus.events = s.bus.events ++ [{ kind := .read, address := a, data := s.busAnswer a }] := rfl

/-! ## busWrite -/

@[simp] theorem State.busWrite_regs (s : State) (a : Word) (v : Byte) : (s.busWrite a v).regs = s.regs := rfl
@[simp] theorem State.busWrite_ctx (s : State) (a : Word) (v : Byte) : (s.busWrite a v).ctx = s.ctx := rfl
@[simp] theorem State.busWrite_fault (s : State) (a : Word) (v : Byte) : (s.busWrite a v).fault = s.fault := rfl
@[simp] theorem State.busWrite_ram (s : State) (a : Word) (v : Byte) : (s.busWrite a v).bus.ram = s.bus.ram.write a v := rfl
@[simp] theorem State.busWrite_answers (s : State) (a : Word) (v : Byte) : (s.busWrite a v).bus.answers = s.bus.answers := rfl
@[simp] theorem State.busWrite_events (s : State) (a : Word) (v : Byte) : (s.busWrite a v).bus.events = s.bus.events ++ [{ kind := .write, address := a, data := v }] := rfl

/-! ## raiseFatalFault -/

@[simp] theorem State.raiseFatalFault_regs (s : State) : (s.raiseFatalFault).regs = s.regs := rfl
@[simp] theorem State.raiseFatalFault_ctx (s : State) : (s.raiseFatalFault).ctx = s.ctx := rfl
@[simp] theorem State.raiseFatalFault_fault (s : State) : (s.raiseFatalFault).fault = some { prefixed := s.ctx.prefixed, opcode := s.ctx.opcode, pc := s.regs.pc } := rfl
@[simp] theorem State.raiseFatalFault_bus (s : State) : (s.raiseFatalFault).bus = s.bus := rfl

/-! ## FETCH and the PREFIX CB read (40_sequencer.md R94, R112) -/

@[simp] theorem State.fetch_regs (s : State) : s.fetch.regs = { s.regs with pc := s.regs.pc + 1 } := rfl
@[simp] theorem State.fetch_fault (s : State) : s.fetch.fault = s.fault := rfl
@[simp] theorem State.fetch_bus (s : State) : s.fetch.bus = (s.afterRead s.regs.pc).bus := rfl
@[simp] theorem State.latchCb_regs (s : State) : s.latchCb.regs = { s.regs with pc := s.regs.pc + 1 } := rfl
@[simp] theorem State.latchCb_fault (s : State) : s.latchCb.fault = s.fault := rfl
@[simp] theorem State.latchCb_bus (s : State) : s.latchCb.bus = (s.afterRead s.regs.pc).bus := rfl
@[simp] theorem State.fetch_ctx (s : State) : s.fetch.ctx = { opcode := s.busAnswer s.regs.pc, prefixed := false, step := 0, scratch8 := 0, scratch16 := 0 } := rfl
@[simp] theorem State.latchCb_ctx (s : State) : s.latchCb.ctx = { s.ctx with opcode := s.busAnswer s.regs.pc, prefixed := true, step := 0 } := rfl

/-! ## loadScratch8 -/

@[simp] theorem State.loadScratch8_regs (s : State) (a : Word) : (s.loadScratch8 a).regs = s.regs := rfl
@[simp] theorem State.loadScratch8_ctx (s : State) (a : Word) : (s.loadScratch8 a).ctx = { s.ctx with scratch8 := s.busAnswer a } := rfl
@[simp] theorem State.loadScratch8_fault (s : State) (a : Word) : (s.loadScratch8 a).fault = s.fault := rfl
@[simp] theorem State.loadScratch8_bus (s : State) (a : Word) : (s.loadScratch8 a).bus = (s.afterRead a).bus := rfl

/-! ## The 8-bit arithmetic on a register or on scratch8 -/

@[simp] theorem State.incReg8_regs (s : State) (r : Reg8) : (s.incReg8 r).regs = ({ s.regs with f := inc8Flags (s.get8 r) s.regs.f }).set8 r (inc8 (s.get8 r)) := rfl
@[simp] theorem State.incReg8_ctx (s : State) (r : Reg8) : (s.incReg8 r).ctx = s.ctx := rfl
@[simp] theorem State.incReg8_fault (s : State) (r : Reg8) : (s.incReg8 r).fault = s.fault := rfl
@[simp] theorem State.incReg8_bus (s : State) (r : Reg8) : (s.incReg8 r).bus = s.bus := rfl
@[simp] theorem State.decReg8_regs (s : State) (r : Reg8) : (s.decReg8 r).regs = ({ s.regs with f := dec8Flags (s.get8 r) s.regs.f }).set8 r (dec8 (s.get8 r)) := rfl
@[simp] theorem State.decReg8_ctx (s : State) (r : Reg8) : (s.decReg8 r).ctx = s.ctx := rfl
@[simp] theorem State.decReg8_fault (s : State) (r : Reg8) : (s.decReg8 r).fault = s.fault := rfl
@[simp] theorem State.decReg8_bus (s : State) (r : Reg8) : (s.decReg8 r).bus = s.bus := rfl
@[simp] theorem State.rlReg8_regs (s : State) (r : Reg8) : (s.rlReg8 r).regs = ({ s.regs with f := rl8Flags (s.get8 r) s.regs.f }).set8 r (rl8 (s.get8 r) s.regs.f) := rfl
@[simp] theorem State.rlReg8_ctx (s : State) (r : Reg8) : (s.rlReg8 r).ctx = s.ctx := rfl
@[simp] theorem State.rlReg8_fault (s : State) (r : Reg8) : (s.rlReg8 r).fault = s.fault := rfl
@[simp] theorem State.rlReg8_bus (s : State) (r : Reg8) : (s.rlReg8 r).bus = s.bus := rfl
@[simp] theorem State.incScratch8_regs (s : State) : s.incScratch8.regs = { s.regs with f := inc8Flags s.ctx.scratch8 s.regs.f } := rfl
@[simp] theorem State.incScratch8_ctx (s : State) : s.incScratch8.ctx = { s.ctx with scratch8 := inc8 s.ctx.scratch8 } := rfl
@[simp] theorem State.incScratch8_fault (s : State) : s.incScratch8.fault = s.fault := rfl
@[simp] theorem State.incScratch8_bus (s : State) : s.incScratch8.bus = s.bus := rfl
@[simp] theorem State.decScratch8_regs (s : State) : s.decScratch8.regs = { s.regs with f := dec8Flags s.ctx.scratch8 s.regs.f } := rfl
@[simp] theorem State.decScratch8_ctx (s : State) : s.decScratch8.ctx = { s.ctx with scratch8 := dec8 s.ctx.scratch8 } := rfl
@[simp] theorem State.decScratch8_fault (s : State) : s.decScratch8.fault = s.fault := rfl
@[simp] theorem State.decScratch8_bus (s : State) : s.decScratch8.bus = s.bus := rfl
@[simp] theorem State.rlScratch8_regs (s : State) : s.rlScratch8.regs = { s.regs with f := rl8Flags s.ctx.scratch8 s.regs.f } := rfl
@[simp] theorem State.rlScratch8_ctx (s : State) : s.rlScratch8.ctx = { s.ctx with scratch8 := rl8 s.ctx.scratch8 s.regs.f } := rfl
@[simp] theorem State.rlScratch8_fault (s : State) : s.rlScratch8.fault = s.fault := rfl
@[simp] theorem State.rlScratch8_bus (s : State) : s.rlScratch8.bus = s.bus := rfl
@[simp] theorem State.compareA_regs (s : State) (v : Byte) : (s.compareA v).regs = { s.regs with f := cpFlags s.regs.a v s.regs.f } := rfl
@[simp] theorem State.compareA_ctx (s : State) (v : Byte) : (s.compareA v).ctx = s.ctx := rfl
@[simp] theorem State.compareA_fault (s : State) (v : Byte) : (s.compareA v).fault = s.fault := rfl
@[simp] theorem State.compareA_bus (s : State) (v : Byte) : (s.compareA v).bus = s.bus := rfl
@[simp] theorem State.bitTest_regs (s : State) (b : Fin 8) (v : Byte) : (s.bitTest b v).regs = { s.regs with f := bitTestFlags b v s.regs.f } := rfl
@[simp] theorem State.bitTest_ctx (s : State) (b : Fin 8) (v : Byte) : (s.bitTest b v).ctx = s.ctx := rfl
@[simp] theorem State.bitTest_fault (s : State) (b : Fin 8) (v : Byte) : (s.bitTest b v).fault = s.fault := rfl
@[simp] theorem State.bitTest_bus (s : State) (b : Fin 8) (v : Byte) : (s.bitTest b v).bus = s.bus := rfl

end Sys2Proof.Machine
end

