-- ==== Sys2Proof/Laws/Flags.lean ====
section
/-!
SUPPORT. The flag setter touches one bit (10_state.md R29), so every flag computation keeps the low nibble of f (R30), and the
halves of a pair put together give the pair back (R25, R26).
-/

namespace Sys2Proof.Machine

theorem getFlag_setFlag_same (x : Flag) (v : Bool) (f : Byte) : getFlag x (setFlag x v f) = v := by
  cases x <;> cases v <;> (revert f; decide)

theorem getFlag_setFlag_other (x y : Flag) (v : Bool) (f : Byte) (h : y ≠ x) :
    getFlag y (setFlag x v f) = getFlag y f := by
  cases x <;> cases y <;> first | exact absurd rfl h | (cases v <;> (revert f; decide))

theorem flagLowNibbleClear_setFlag (x : Flag) (v : Bool) (f : Byte) :
    flagLowNibbleClear (setFlag x v f) = flagLowNibbleClear f := by
  cases x <;> cases v <;> (revert f; decide)

@[simp] theorem flagLowNibbleClear_cpFlags (av s f : Byte) :
    flagLowNibbleClear (cpFlags av s f) = flagLowNibbleClear f := by
  simp only [cpFlags, flagLowNibbleClear_setFlag]

@[simp] theorem flagLowNibbleClear_inc8Flags (v f : Byte) :
    flagLowNibbleClear (inc8Flags v f) = flagLowNibbleClear f := by
  simp only [inc8Flags, flagLowNibbleClear_setFlag]

@[simp] theorem flagLowNibbleClear_dec8Flags (v f : Byte) :
    flagLowNibbleClear (dec8Flags v f) = flagLowNibbleClear f := by
  simp only [dec8Flags, flagLowNibbleClear_setFlag]

@[simp] theorem flagLowNibbleClear_rl8Flags (v f : Byte) :
    flagLowNibbleClear (rl8Flags v f) = flagLowNibbleClear f := by
  simp only [rl8Flags, flagLowNibbleClear_setFlag]

@[simp] theorem flagLowNibbleClear_bitTestFlags (b : Fin 8) (v f : Byte) :
    flagLowNibbleClear (bitTestFlags b v f) = flagLowNibbleClear f := by
  simp only [bitTestFlags, flagLowNibbleClear_setFlag]

/-- The setter keeps the reserved low nibble (R30). -/
theorem lowNibble_setFlag (x : Flag) (v : Bool) (f : Byte) : setFlag x v f &&& 15#8 = f &&& 15#8 := by
  cases x <;> cases v <;> (revert f; decide)

@[simp] theorem lowNibble_cpFlags (av s f : Byte) : cpFlags av s f &&& 15#8 = f &&& 15#8 := by
  simp only [cpFlags, lowNibble_setFlag]

@[simp] theorem lowNibble_inc8Flags (v f : Byte) : inc8Flags v f &&& 15#8 = f &&& 15#8 := by
  simp only [inc8Flags, lowNibble_setFlag]

@[simp] theorem lowNibble_dec8Flags (v f : Byte) : dec8Flags v f &&& 15#8 = f &&& 15#8 := by
  simp only [dec8Flags, lowNibble_setFlag]

@[simp] theorem lowNibble_rl8Flags (v f : Byte) : rl8Flags v f &&& 15#8 = f &&& 15#8 := by
  simp only [rl8Flags, lowNibble_setFlag]

@[simp] theorem lowNibble_bitTestFlags (b : Fin 8) (v f : Byte) : bitTestFlags b v f &&& 15#8 = f &&& 15#8 := by
  simp only [bitTestFlags, lowNibble_setFlag]

/-- `BOOT_REGS.f & 0xF0` has a clear low nibble (D14). -/
theorem flagLowNibbleClear_mask (f : Byte) : flagLowNibbleClear (f &&& 0xF0) = true := by
  revert f; decide

@[simp] theorem hiByte_pairOf (hi lo : Byte) : hiByte (pairOf hi lo) = hi := by
  unfold hiByte pairOf
  ext i hlt
  simp [BitVec.getElem_extractLsb', show ¬ 8 + i < 8 by omega, show 8 + i < 16 by omega, BitVec.getLsbD_eq_getElem hlt]

@[simp] theorem loByte_pairOf (hi lo : Byte) : loByte (pairOf hi lo) = lo := by
  unfold loByte pairOf
  ext i hlt
  simp [BitVec.getElem_extractLsb', hlt, show i < 16 by omega]

@[simp] theorem pairOf_hiByte_loByte (v : Word) : pairOf (hiByte v) (loByte v) = v := by
  unfold pairOf hiByte loByte
  ext i hlt
  by_cases h : i < 8
  · simp [h, hlt, BitVec.getLsbD_eq_getElem]
  · simp [h, hlt, show 8 + (i - 8) = i by omega, show i - 8 < 8 by omega, BitVec.getLsbD_eq_getElem]

/-- A 16-bit write is read back by the view (R25, R26). -/
@[simp] theorem Regs.get16_set16_same (g : Regs) (r : Reg16) (v : Word) : (g.set16 r v).get16 r = v := by
  cases r <;> simp [Regs.get16, Regs.set16]

end Sys2Proof.Machine
end

