-- ==== Sys2Proof/Laws/Memory.lean ====
section
/-!
SUPPORT. The laws of the flat RAM: a read after a write, the bytes a write leaves alone, and the canonical form, which every memory
operation keeps.
-/

namespace Sys2Proof.Machine

theorem Memory.wfFrom_weaken {m : Memory} {low low' : Nat} (h : m.wfFrom low = true) (hl : low' ≤ low) :
    m.wfFrom low' = true := by
  cases m with
  | nil => rfl
  | cons c rest =>
    simp only [Memory.wfFrom, Bool.and_eq_true, decide_eq_true_eq] at h ⊢
    exact ⟨⟨⟨by omega, h.1.1.2⟩, h.1.2⟩, h.2⟩

/-- Nothing is listed below the address a canonical list starts from. -/
theorem Memory.find_below {m : Memory} {low a : Nat} (h : m.wfFrom low = true) (ha : a < low) : m.find a = none := by
  induction m generalizing low with
  | nil => rfl
  | cons c rest ih =>
    simp only [Memory.wfFrom, Bool.and_eq_true, decide_eq_true_eq] at h
    rw [Memory.find, if_neg (by omega)]
    exact ih h.2 (by omega)

theorem Memory.getD_find_put_same {m : Memory} {low a : Nat} (v : Byte) (h : m.wfFrom low = true) :
    ((m.put a v).find a).getD Config.ramInit = v := by
  induction m generalizing low with
  | nil => by_cases hv : v = Config.ramInit <;> simp [Memory.put, Memory.find, hv]
  | cons c rest ih =>
    obtain ⟨k, w⟩ := c
    have hc := h
    simp only [Memory.wfFrom, Bool.and_eq_true, decide_eq_true_eq] at h
    by_cases hlt : a < k
    · by_cases hv : v = Config.ramInit
      · have hr : Memory.find rest a = none := Memory.find_below h.2 (by omega)
        simp [Memory.put, Memory.find, hlt, hv, hr, show k ≠ a by omega]
      · simp [Memory.put, Memory.find, hlt, hv]
    · by_cases heq : a = k
      · by_cases hv : v = Config.ramInit
        · have hr : Memory.find rest k = none := Memory.find_below h.2 (by omega)
          simp [Memory.put, heq, hv, hr]
        · simp [Memory.put, Memory.find, heq, hv]
      · have := ih h.2
        simpa [Memory.put, Memory.find, hlt, heq, show k ≠ a by omega] using this

theorem Memory.find_put_other (m : Memory) {a b : Nat} (v : Byte) (hab : b ≠ a) :
    (m.put a v).find b = m.find b := by
  induction m with
  | nil => by_cases hv : v = Config.ramInit <;> simp [Memory.put, Memory.find, hv, hab.symm]
  | cons c rest ih =>
    obtain ⟨k, w⟩ := c
    by_cases hlt : a < k
    · by_cases hv : v = Config.ramInit <;> simp [Memory.put, Memory.find, hlt, hv, hab.symm]
    · by_cases heq : a = k
      · subst heq
        by_cases hv : v = Config.ramInit <;> simp [Memory.put, Memory.find, hv, hab.symm]
      · simp [Memory.put, Memory.find, hlt, heq, ih]

theorem Memory.wfFrom_put {m : Memory} {low a : Nat} (v : Byte) (h : m.wfFrom low = true) (hla : low ≤ a)
    (ha : a < 65536) : (m.put a v).wfFrom low = true := by
  induction m generalizing low with
  | nil =>
    by_cases hv : v = Config.ramInit
    · simp [Memory.put, Memory.wfFrom, hv]
    · simp [Memory.put, Memory.wfFrom, hv, hla, ha]
  | cons c rest ih =>
    obtain ⟨k, w⟩ := c
    have hc := h
    simp only [Memory.wfFrom, Bool.and_eq_true, decide_eq_true_eq] at h
    by_cases hlt : a < k
    · by_cases hv : v = Config.ramInit
      · simpa [Memory.put, hlt, hv] using hc
      · simp only [Memory.put, hlt, hv, if_true, if_false, Memory.wfFrom, Bool.and_eq_true, decide_eq_true_eq]
        exact ⟨⟨⟨hla, ha⟩, hv⟩, ⟨⟨⟨by omega, h.1.1.2⟩, h.1.2⟩, h.2⟩⟩
    · by_cases heq : a = k
      · by_cases hv : v = Config.ramInit
        · simpa [Memory.put, heq, hv] using Memory.wfFrom_weaken h.2 (by omega)
        · simp only [Memory.put, heq, hv, if_true, if_false, Nat.lt_irrefl, Memory.wfFrom, Bool.and_eq_true,
            decide_eq_true_eq]
          exact ⟨⟨⟨h.1.1.1, h.1.1.2⟩, hv⟩, h.2⟩
      · simp only [Memory.put, hlt, heq, if_false, Memory.wfFrom, Bool.and_eq_true, decide_eq_true_eq]
        exact ⟨⟨⟨h.1.1.1, h.1.1.2⟩, h.1.2⟩, ih h.2 (by omega)⟩

/-- Every write keeps the canonical form. -/
@[simp] theorem Memory.wf_write {m : Memory} (a : Word) (v : Byte) (h : m.wf = true) : (m.write a v).wf = true :=
  Memory.wfFrom_put v h (Nat.zero_le _) a.isLt

@[simp] theorem Memory.wf_nil : Memory.wf [] = true := rfl

/-- Placing bytes keeps the canonical form. -/
theorem Memory.wf_writeBytes {m : Memory} (a : Word) (vs : List Byte) (h : m.wf = true) :
    (m.writeBytes a vs).wf = true := by
  induction vs generalizing m a with
  | nil => exact h
  | cons v rest ih => exact ih (a + 1) (Memory.wf_write a v h)

/-- A read of the byte just written. -/
theorem Memory.read_write_same {m : Memory} (a : Word) (v : Byte) (h : m.wf = true) : (m.write a v).read a = v :=
  Memory.getD_find_put_same v h

/-- A write leaves every other address alone. -/
theorem Memory.read_write_other (m : Memory) {a b : Word} (v : Byte) (hab : b ≠ a) :
    (m.write a v).read b = m.read b := by
  have : b.toNat ≠ a.toNat := fun h => hab (BitVec.eq_of_toNat_eq h)
  simp [Memory.read, Memory.write, Memory.find_put_other _ _ this]

/-- Reset lists nothing, so it is in canonical form. -/
theorem State.reset_ram_wf : State.reset.bus.ram.wf = true := rfl

end Sys2Proof.Machine
end

