-- ==== Sys2Proof/Laws/Tables.lean ====
section
/-!
SUPPORT. The cycle tables row by row, as the spec lists them, and the one fact about `exec` everything else rests on: it performs
row `ctx.step` of its form's table.
-/

namespace Sys2Proof

open Machine

/-- The cycle table of each form. -/
def Form.table : Form → List Row
  | .nop => nopTable
  | .prefixCB => prefixCBTable
  | .ldRegReg dst s => load8Table (.reg dst) (.reg s)
  | .ldRegImm dst => load8Table (.reg dst) .imm8
  | .ldRegIndHL dst => load8Table (.reg dst) (.ind .hl)
  | .ldIndHLReg s => load8Table (.ind .hl) (.reg s)
  | .ldIndHLImm => load8Table (.ind .hl) .imm8
  | .ldAIndBC => load8Table (.reg .a) (.ind .bc)
  | .ldAIndDE => load8Table (.reg .a) (.ind .de)
  | .ldIndBCA => load8Table (.ind .bc) (.reg .a)
  | .ldIndDEA => load8Table (.ind .de) (.reg .a)
  | .ldAIndHLI => load8Table (.reg .a) .indHLI
  | .ldAIndHLD => load8Table (.reg .a) .indHLD
  | .ldIndHLIA => load8Table .indHLI (.reg .a)
  | .ldIndHLDA => load8Table .indHLD (.reg .a)
  | .ldADir => load8Table (.reg .a) .dir8
  | .ldDirA => load8Table .dir8 (.reg .a)
  | .ldhAImm => load8Table (.reg .a) .highImm
  | .ldhImmA => load8Table .highImm (.reg .a)
  | .ldAHighC => load8Table (.reg .a) .highC
  | .ldHighCA => load8Table .highC (.reg .a)
  | .ldPairImm rr => ldPairImmTable rr
  | .ldSPHL => ldSPHLTable
  | .ldDirSP => ldDirSPTable
  | .cpReg s => cpTable (.reg s)
  | .cpIndHL => cpTable (.ind .hl)
  | .cpImm => cpTable .imm8
  | .incReg dst => incRegTable dst
  | .incIndHL => rmwHLTable State.incScratch8
  | .decReg dst => decRegTable dst
  | .decIndHL => rmwHLTable State.decScratch8
  | .incPair rr => incPairTable rr
  | .decPair rr => decPairTable rr
  | .rlReg s => rlRegTable s
  | .rlIndHL => rmwHLTable State.rlScratch8
  | .bitReg b s => bitTable b (.reg s)
  | .bitIndHL b => bitTable b (.ind .hl)
  | .push qq => pushTable qq

end Sys2Proof

namespace Sys2Proof.Machine

/-- Every instruction performs row `ctx.step` of its form's cycle table. -/
theorem exec_eq_runRow (i : Instr) (s : State) : exec i s = runRow i.form.table s := by
  cases i <;> rfl

/-- A table performs a row or refuses. -/
theorem runRow_eq_next {table : List Row} {s t : State} (h : runRow table s = .next t) :
    ∃ row, table[s.ctx.step]? = some row ∧ t = row s := by
  unfold runRow at h
  split at h
  · exact ⟨_, ‹_›, by cases h; rfl⟩
  · cases h

theorem runRow_of_getElem? {table : List Row} {s : State} {row : Row} (h : table[s.ctx.step]? = some row) :
    runRow table s = .next (row s) := by
  simp [runRow, h]

/-- What `exec` can do: it performs the row its table holds at `ctx.step`. -/
theorem exec_eq_next {i : Instr} {s t : State} (h : exec i s = .next t) :
    ∃ row, i.form.table[s.ctx.step]? = some row ∧ t = row s :=
  runRow_eq_next (exec_eq_runRow i s ▸ h)

/-- A cycle table has a row for each of its form's cycles (40_sequencer.md R96). -/
theorem table_length (f : Form) : f.table.length = f.cycles := by
  cases f <;> rfl

/-- What holds of every row of every cycle table holds of every step of `exec`. -/
theorem exec_rows {P : Form → State → State → Prop}
    (H : ∀ (f : Form) (k : Nat) (row : Row), f.table[k]? = some row → ∀ s : State, s.ctx.step = k → P f s (row s))
    {i : Instr} {s t : State} (h : exec i s = .next t) : P i.form s t := by
  obtain ⟨row, hr, rfl⟩ := exec_eq_next h
  exact H _ _ _ hr s rfl

/-- `exec` never faults: the only exception arises at dispatch (41_load8.md R120, 60_exceptions.md R223, R225). -/
theorem exec_ne_fault (i : Instr) (s : State) (r : Fault) : exec i s ≠ .fault r := by
  rw [exec_eq_runRow]
  unfold runRow
  split <;> simp

/-! ## The rows of each form, in the spec's order -/

theorem load8Table_reg_reg (dst s : Reg8) :
    load8Table (.reg dst) (.reg s) = [fun t => (t.set8 dst (t.get8 s)).fetch] := rfl
theorem load8Table_reg_imm8 (dst : Reg8) :
    load8Table (.reg dst) .imm8 = [readImm8, fun t => (t.set8 dst t.ctx.scratch8).fetch] := rfl
theorem load8Table_reg_ind (dst : Reg8) (rp : IndPair) :
    load8Table (.reg dst) (.ind rp) =
      [fun t => (t.loadScratch8 (t.get16 (indReg rp))).advance, fun t => (t.set8 dst t.ctx.scratch8).fetch] := rfl
theorem load8Table_ind_reg (rp : IndPair) (r : Reg8) :
    load8Table (.ind rp) (.reg r) =
      [fun t => (t.busWrite (t.get16 (indReg rp)) (t.get8 r)).advance, State.fetch] := rfl
theorem load8Table_ind_imm8 (rp : IndPair) :
    load8Table (.ind rp) .imm8 =
      [readImm8, fun t => (t.busWrite (t.get16 (indReg rp)) t.ctx.scratch8).advance, State.fetch] := rfl
theorem load8Table_reg_indHLI (dst : Reg8) :
    load8Table (.reg dst) .indHLI =
      [fun t => ((t.loadScratch8 t.hl).set16 .hl (t.hl + 1)).advance, fun t => (t.set8 dst t.ctx.scratch8).fetch] := rfl
theorem load8Table_reg_indHLD (dst : Reg8) :
    load8Table (.reg dst) .indHLD =
      [fun t => ((t.loadScratch8 t.hl).set16 .hl (t.hl - 1)).advance, fun t => (t.set8 dst t.ctx.scratch8).fetch] := rfl
theorem load8Table_indHLI_reg (r : Reg8) :
    load8Table .indHLI (.reg r) =
      [fun t => ((t.busWrite t.hl (t.get8 r)).set16 .hl (t.hl + 1)).advance, State.fetch] := rfl
theorem load8Table_indHLD_reg (r : Reg8) :
    load8Table .indHLD (.reg r) =
      [fun t => ((t.busWrite t.hl (t.get8 r)).set16 .hl (t.hl - 1)).advance, State.fetch] := rfl
theorem load8Table_reg_dir8 (dst : Reg8) :
    load8Table (.reg dst) .dir8 =
      [readImmLo, readImmHi, fun t => (t.loadScratch8 t.ctx.scratch16).advance,
       fun t => (t.set8 dst t.ctx.scratch8).fetch] := rfl
theorem load8Table_dir8_reg (r : Reg8) :
    load8Table .dir8 (.reg r) =
      [readImmLo, readImmHi, fun t => (t.busWrite t.ctx.scratch16 (t.get8 r)).advance, State.fetch] := rfl
theorem load8Table_reg_highImm (dst : Reg8) :
    load8Table (.reg dst) .highImm =
      [readImmHigh, fun t => (t.loadScratch8 t.ctx.scratch16).advance, fun t => (t.set8 dst t.ctx.scratch8).fetch] := rfl
theorem load8Table_highImm_reg (r : Reg8) :
    load8Table .highImm (.reg r) =
      [readImmHigh, fun t => (t.busWrite t.ctx.scratch16 (t.get8 r)).advance, State.fetch] := rfl
theorem load8Table_reg_highC (dst : Reg8) :
    load8Table (.reg dst) .highC =
      [fun t => (t.loadScratch8 (highPage t.regs.c)).advance, fun t => (t.set8 dst t.ctx.scratch8).fetch] := rfl
theorem load8Table_highC_reg (r : Reg8) :
    load8Table .highC (.reg r) =
      [fun t => (t.busWrite (highPage t.regs.c) (t.get8 r)).advance, State.fetch] := rfl
theorem ldPairImmTable_rows (rr : PairRR) :
    ldPairImmTable rr = [readImmLo, readImmHi, fun t => (t.set16 (pairReg rr) t.ctx.scratch16).fetch] := rfl
theorem ldDirSPTable_rows :
    ldDirSPTable =
      [readImmLo, readImmHi, fun t => (t.busWrite t.ctx.scratch16 (loByte t.regs.sp)).advance,
       fun t => (t.busWrite (t.ctx.scratch16 + 1) (hiByte t.regs.sp)).advance, State.fetch] := rfl
theorem cpTable_reg (r : Reg8) : cpTable (.reg r) = [fun t => (t.compareA (t.get8 r)).fetch] := rfl
theorem cpTable_ind (rp : IndPair) :
    cpTable (.ind rp) =
      [fun t => (t.loadScratch8 (t.get16 (indReg rp))).advance, fun t => (t.compareA t.ctx.scratch8).fetch] := rfl
theorem cpTable_imm8 : cpTable .imm8 = [readImm8, fun t => (t.compareA t.ctx.scratch8).fetch] := rfl
theorem bitTable_reg (b : Fin 8) (r : Reg8) : bitTable b (.reg r) = [fun t => (t.bitTest b (t.get8 r)).fetch] := rfl
theorem bitTable_ind (b : Fin 8) (rp : IndPair) :
    bitTable b (.ind rp) =
      [fun t => (t.loadScratch8 (t.get16 (indReg rp))).advance, fun t => (t.bitTest b t.ctx.scratch8).fetch] := rfl
theorem pushTable_rows (qq : PairQQ) :
    pushTable qq =
      [fun t => (t.setScratch16 (t.get16 (pushReg qq))).advance, pushByte (fun t => hiByte t.ctx.scratch16),
       pushByte (fun t => loByte t.ctx.scratch16), State.fetch] := rfl

end Sys2Proof.Machine
end

