-- ==== Sys2Proof/Laws/Step.lean ====
section
/-!
SUPPORT. What one step can do, said once, and runs of several steps.
-/

namespace Sys2Proof.Machine

/-- Everything a step that answers a next state did: it took the fatal fault, or it performed the latched instruction's row. -/
theorem step_eq_next {s t : State} (h : step s = .next t) :
    s.fault = none ∧ flagLowNibbleClear s.regs.f = true ∧
      ((s.latched = none ∧ t = s.raiseFatalFault) ∨ ∃ i, s.latched = some i ∧ exec i s = .next t) := by
  unfold step advanceOneCycle at h
  split at h
  · cases h
  · rename_i hf
    split at h
    · rename_i hn
      refine ⟨hf, hn, ?_⟩
      split at h
      · exact .inr ⟨_, ‹_›, h⟩
      · exact .inl ⟨‹_›, by cases h; rfl⟩
    · cases h

/-- With an instruction latched and no obstacle, the step is that instruction's. -/
theorem step_of_latched {s : State} {i : Instr} (hf : s.fault = none) (hn : flagLowNibbleClear s.regs.f = true)
    (hl : s.latched = some i) : step s = exec i s := by
  simp [step, advanceOneCycle, hf, hn, hl]

/-- A step is a fault only from a latched fault (60_exceptions.md R221). -/
theorem step_eq_fault {s : State} {r : Fault} (h : step s = .fault r) : ∃ q, s.fault = some q ∧ r = .fatalFault q := by
  unfold step advanceOneCycle at h
  split at h
  · exact ⟨_, ‹_›, by cases h; rfl⟩
  · split at h
    · split at h
      · exact absurd h (exec_ne_fault _ _ _)
      · cases h
    · cases h

@[simp] theorem run_zero (s : State) : run 0 s = .next s := rfl

theorem run_succ_of_next {n : Nat} {s t : State} (h : step s = .next t) : run (n + 1) s = run n t := by
  simp [run, h]

/-- Runs compose. -/
theorem run_add_of_next {m n : Nat} {s t : State} (h : run m s = .next t) : run (m + n) s = run n t := by
  induction m generalizing s with
  | zero => cases h; simp
  | succ m ih =>
    rw [Nat.add_right_comm]
    simp only [run] at h ⊢
    split at h
    · exact ih h
    · cases h
    · cases h

end Sys2Proof.Machine
end

