-- ==== Sys2Proof/Laws/PerInstr.lean ====
section
/-!
SUPPORT. The dispatcher maps the pair an instruction's encoding gives back to that instruction (30_encoding.md R82,
40_sequencer.md R98): one lemma per instruction. The encoding is that of R77, the map that of R78.
-/

namespace Sys2Proof.Laws.DispatchesTo

/-- The dispatcher selects the instruction from its own encoding. -/
def Statement (i : Instr) : Prop := decode i.opcode i.prefixed = some i

theorem nop : Statement .nop := rfl
theorem prefixCB : Statement .prefixCB := rfl
theorem ldBB : Statement .ldBB := rfl
theorem ldBC : Statement .ldBC := rfl
theorem ldBD : Statement .ldBD := rfl
theorem ldBE : Statement .ldBE := rfl
theorem ldBH : Statement .ldBH := rfl
theorem ldBL : Statement .ldBL := rfl
theorem ldBA : Statement .ldBA := rfl
theorem ldCB : Statement .ldCB := rfl
theorem ldCC : Statement .ldCC := rfl
theorem ldCD : Statement .ldCD := rfl
theorem ldCE : Statement .ldCE := rfl
theorem ldCH : Statement .ldCH := rfl
theorem ldCL : Statement .ldCL := rfl
theorem ldCA : Statement .ldCA := rfl
theorem ldDB : Statement .ldDB := rfl
theorem ldDC : Statement .ldDC := rfl
theorem ldDD : Statement .ldDD := rfl
theorem ldDE : Statement .ldDE := rfl
theorem ldDH : Statement .ldDH := rfl
theorem ldDL : Statement .ldDL := rfl
theorem ldDA : Statement .ldDA := rfl
theorem ldEB : Statement .ldEB := rfl
theorem ldEC : Statement .ldEC := rfl
theorem ldED : Statement .ldED := rfl
theorem ldEE : Statement .ldEE := rfl
theorem ldEH : Statement .ldEH := rfl
theorem ldEL : Statement .ldEL := rfl
theorem ldEA : Statement .ldEA := rfl
theorem ldHB : Statement .ldHB := rfl
theorem ldHC : Statement .ldHC := rfl
theorem ldHD : Statement .ldHD := rfl
theorem ldHE : Statement .ldHE := rfl
theorem ldHH : Statement .ldHH := rfl
theorem ldHL : Statement .ldHL := rfl
theorem ldHA : Statement .ldHA := rfl
theorem ldLB : Statement .ldLB := rfl
theorem ldLC : Statement .ldLC := rfl
theorem ldLD : Statement .ldLD := rfl
theorem ldLE : Statement .ldLE := rfl
theorem ldLH : Statement .ldLH := rfl
theorem ldLL : Statement .ldLL := rfl
theorem ldLA : Statement .ldLA := rfl
theorem ldAB : Statement .ldAB := rfl
theorem ldAC : Statement .ldAC := rfl
theorem ldAD : Statement .ldAD := rfl
theorem ldAE : Statement .ldAE := rfl
theorem ldAH : Statement .ldAH := rfl
theorem ldAL : Statement .ldAL := rfl
theorem ldAA : Statement .ldAA := rfl
theorem ldBIndHL : Statement .ldBIndHL := rfl
theorem ldCIndHL : Statement .ldCIndHL := rfl
theorem ldDIndHL : Statement .ldDIndHL := rfl
theorem ldEIndHL : Statement .ldEIndHL := rfl
theorem ldHIndHL : Statement .ldHIndHL := rfl
theorem ldLIndHL : Statement .ldLIndHL := rfl
theorem ldAIndHL : Statement .ldAIndHL := rfl
theorem ldIndHLB : Statement .ldIndHLB := rfl
theorem ldIndHLC : Statement .ldIndHLC := rfl
theorem ldIndHLD : Statement .ldIndHLD := rfl
theorem ldIndHLE : Statement .ldIndHLE := rfl
theorem ldIndHLH : Statement .ldIndHLH := rfl
theorem ldIndHLL : Statement .ldIndHLL := rfl
theorem ldIndHLA : Statement .ldIndHLA := rfl
theorem ldBN : Statement .ldBN := rfl
theorem ldCN : Statement .ldCN := rfl
theorem ldDN : Statement .ldDN := rfl
theorem ldEN : Statement .ldEN := rfl
theorem ldHN : Statement .ldHN := rfl
theorem ldLN : Statement .ldLN := rfl
theorem ldAN : Statement .ldAN := rfl
theorem ldIndHLN : Statement .ldIndHLN := rfl
theorem ldAIndBC : Statement .ldAIndBC := rfl
theorem ldAIndDE : Statement .ldAIndDE := rfl
theorem ldIndBCA : Statement .ldIndBCA := rfl
theorem ldIndDEA : Statement .ldIndDEA := rfl
theorem ldAIndHLI : Statement .ldAIndHLI := rfl
theorem ldAIndHLD : Statement .ldAIndHLD := rfl
theorem ldIndHLIA : Statement .ldIndHLIA := rfl
theorem ldIndHLDA : Statement .ldIndHLDA := rfl
theorem ldAIndNn : Statement .ldAIndNn := rfl
theorem ldIndNnA : Statement .ldIndNnA := rfl
theorem ldhAIndN : Statement .ldhAIndN := rfl
theorem ldhIndNA : Statement .ldhIndNA := rfl
theorem ldAIndC : Statement .ldAIndC := rfl
theorem ldIndCA : Statement .ldIndCA := rfl
theorem ldBCNn : Statement .ldBCNn := rfl
theorem ldDENn : Statement .ldDENn := rfl
theorem ldHLNn : Statement .ldHLNn := rfl
theorem ldSPNn : Statement .ldSPNn := rfl
theorem ldSPHL : Statement .ldSPHL := rfl
theorem ldIndNnSP : Statement .ldIndNnSP := rfl
theorem cpB : Statement .cpB := rfl
theorem cpC : Statement .cpC := rfl
theorem cpD : Statement .cpD := rfl
theorem cpE : Statement .cpE := rfl
theorem cpH : Statement .cpH := rfl
theorem cpL : Statement .cpL := rfl
theorem cpA : Statement .cpA := rfl
theorem cpIndHL : Statement .cpIndHL := rfl
theorem cpN : Statement .cpN := rfl
theorem incB : Statement .incB := rfl
theorem incC : Statement .incC := rfl
theorem incD : Statement .incD := rfl
theorem incE : Statement .incE := rfl
theorem incH : Statement .incH := rfl
theorem incL : Statement .incL := rfl
theorem incA : Statement .incA := rfl
theorem decB : Statement .decB := rfl
theorem decC : Statement .decC := rfl
theorem decD : Statement .decD := rfl
theorem decE : Statement .decE := rfl
theorem decH : Statement .decH := rfl
theorem decL : Statement .decL := rfl
theorem decA : Statement .decA := rfl
theorem incIndHL : Statement .incIndHL := rfl
theorem decIndHL : Statement .decIndHL := rfl
theorem incBC : Statement .incBC := rfl
theorem incDE : Statement .incDE := rfl
theorem incHL : Statement .incHL := rfl
theorem incSP : Statement .incSP := rfl
theorem decBC : Statement .decBC := rfl
theorem decDE : Statement .decDE := rfl
theorem decHL : Statement .decHL := rfl
theorem decSP : Statement .decSP := rfl
theorem pushBC : Statement .pushBC := rfl
theorem pushDE : Statement .pushDE := rfl
theorem pushHL : Statement .pushHL := rfl
theorem pushAF : Statement .pushAF := rfl
theorem rlB : Statement .rlB := rfl
theorem rlC : Statement .rlC := rfl
theorem rlD : Statement .rlD := rfl
theorem rlE : Statement .rlE := rfl
theorem rlH : Statement .rlH := rfl
theorem rlL : Statement .rlL := rfl
theorem rlA : Statement .rlA := rfl
theorem rlIndHL : Statement .rlIndHL := rfl
theorem bit0B : Statement .bit0B := rfl
theorem bit0C : Statement .bit0C := rfl
theorem bit0D : Statement .bit0D := rfl
theorem bit0E : Statement .bit0E := rfl
theorem bit0H : Statement .bit0H := rfl
theorem bit0L : Statement .bit0L := rfl
theorem bit0A : Statement .bit0A := rfl
theorem bit1B : Statement .bit1B := rfl
theorem bit1C : Statement .bit1C := rfl
theorem bit1D : Statement .bit1D := rfl
theorem bit1E : Statement .bit1E := rfl
theorem bit1H : Statement .bit1H := rfl
theorem bit1L : Statement .bit1L := rfl
theorem bit1A : Statement .bit1A := rfl
theorem bit2B : Statement .bit2B := rfl
theorem bit2C : Statement .bit2C := rfl
theorem bit2D : Statement .bit2D := rfl
theorem bit2E : Statement .bit2E := rfl
theorem bit2H : Statement .bit2H := rfl
theorem bit2L : Statement .bit2L := rfl
theorem bit2A : Statement .bit2A := rfl
theorem bit3B : Statement .bit3B := rfl
theorem bit3C : Statement .bit3C := rfl
theorem bit3D : Statement .bit3D := rfl
theorem bit3E : Statement .bit3E := rfl
theorem bit3H : Statement .bit3H := rfl
theorem bit3L : Statement .bit3L := rfl
theorem bit3A : Statement .bit3A := rfl
theorem bit4B : Statement .bit4B := rfl
theorem bit4C : Statement .bit4C := rfl
theorem bit4D : Statement .bit4D := rfl
theorem bit4E : Statement .bit4E := rfl
theorem bit4H : Statement .bit4H := rfl
theorem bit4L : Statement .bit4L := rfl
theorem bit4A : Statement .bit4A := rfl
theorem bit5B : Statement .bit5B := rfl
theorem bit5C : Statement .bit5C := rfl
theorem bit5D : Statement .bit5D := rfl
theorem bit5E : Statement .bit5E := rfl
theorem bit5H : Statement .bit5H := rfl
theorem bit5L : Statement .bit5L := rfl
theorem bit5A : Statement .bit5A := rfl
theorem bit6B : Statement .bit6B := rfl
theorem bit6C : Statement .bit6C := rfl
theorem bit6D : Statement .bit6D := rfl
theorem bit6E : Statement .bit6E := rfl
theorem bit6H : Statement .bit6H := rfl
theorem bit6L : Statement .bit6L := rfl
theorem bit6A : Statement .bit6A := rfl
theorem bit7B : Statement .bit7B := rfl
theorem bit7C : Statement .bit7C := rfl
theorem bit7D : Statement .bit7D := rfl
theorem bit7E : Statement .bit7E := rfl
theorem bit7H : Statement .bit7H := rfl
theorem bit7L : Statement .bit7L := rfl
theorem bit7A : Statement .bit7A := rfl
theorem bit0IndHL : Statement .bit0IndHL := rfl
theorem bit1IndHL : Statement .bit1IndHL := rfl
theorem bit2IndHL : Statement .bit2IndHL := rfl
theorem bit3IndHL : Statement .bit3IndHL := rfl
theorem bit4IndHL : Statement .bit4IndHL := rfl
theorem bit5IndHL : Statement .bit5IndHL := rfl
theorem bit6IndHL : Statement .bit6IndHL := rfl
theorem bit7IndHL : Statement .bit7IndHL := rfl

end Sys2Proof.Laws.DispatchesTo
end

