-- ==== Sys2Proof/Tests/Slice0.lean ====
section
/-!
SUPPORT. Tests and witnesses. The expected values are those of 95_test_vectors.md (the vector is named by its id in each test's
name or docstring), of the encodings of 30_encoding.md, or worked out by hand from the rule named. A `witness_` theorem shows a
concrete state and operands that meet the hypotheses of the statement it is named after.
-/

open Sys2Proof Sys2Proof.Machine Sys2Proof.Stated

namespace Sys2Proof.Tests

/-! ## Helpers -/

/-- All registers 0 but pc. -/
def base (pc : Word) : Regs := { a := 0, f := 0, b := 0, c := 0, d := 0, e := 0, h := 0, l := 0, sp := 0, pc := pc }

/-- A state over the flat RAM: opcode latched, row k next. -/
def st (op : Byte) (p : Bool) (k : Nat) (g : Regs) (s8 : Byte := 0) (s16 : Word := 0) (mem : Memory := []) : State :=
  { regs := g, ctx := { opcode := op, prefixed := p, step := k, scratch8 := s8, scratch16 := s16 }, fault := none
    bus := { ram := mem, answers := [], events := [] } }

/-- A state in the conventions of 95_test_vectors.md section 2: the first byte at 0x0100 is latched, pc is 0x0101. -/
def vec (op : Byte) (g : Regs) (mem : Memory := []) : State := st op false 0 { g with pc := 0x0101 } (mem := mem)

/-- The state after one step, if there is one. -/
def stepped (s : State) : Option State :=
  match step s with
  | .next t => some t
  | _ => none

def regsAfter (s : State) : Option Regs := (stepped s).map State.regs
def ctxAfter (s : State) : Option Ctx := (stepped s).map State.ctx
def ramAfter (s : State) : Option Memory := (stepped s).map (fun t => t.bus.ram)
def eventsAfter (s : State) : Option (List BusEvent) := (stepped s).map (fun t => t.bus.events)

/-- One row of an instruction can run: its opcode decodes to it, the row is next, and the step answers a next state. -/
def rowRuns (op : Byte) (p : Bool) (i : Instr) (k : Nat) : Bool :=
  let s := st op p k { base 0xFFFF with h := 0xFF, l := 0xFF, sp := 0x0001 } 0x80 0xFFFF
  decide (decode op p = some i) && decide (s.ctx.step = k) && (stepped s).isSome

/-- Every row of an instruction can run, up to its last. -/
def rowsRun (op : Byte) (p : Bool) (i : Instr) : Bool := (List.range i.cycles).all (rowRuns op p i)

/-! ## WellFormed: one ill-formed term for each check -/

theorem test_wellFormed_accepts : Code.wellFormed { instr := .ldSPNn, imm := [0xFE, 0xFF] } = true := by decide
/-- LD BC,nn with one immediate byte (R76). -/
theorem test_immFits_refuses_missing_byte : Code.immFits { instr := .ldBCNn, imm := [0x34] } = false := by decide
/-- NOP with an immediate byte (R76). -/
theorem test_immFits_refuses_extra_byte : Code.wellFormed { instr := .nop, imm := [0x00] } = false := by decide
/-- PREFIX CB alone (C6). -/
theorem test_notPrefixAlone_refuses : Code.notPrefixAlone { instr := .prefixCB, imm := [] } = false := by decide
theorem test_prefix_alone_ill_formed : Code.wellFormed { instr := .prefixCB, imm := [] } = false := by decide

/-! ## Decoding: words written bit by bit from the patterns of R77 -/

/-- NOP is 00000000 and PREFIX CB is 11001011. -/
theorem test_decode_sequencing : decode 0b00000000 false = some .nop ∧ decode 0b11001011 false = some .prefixCB := by decide
/-- LD r,r' is 01dddsss, LD r,n is 00ddd110, LD r,(HL) is 01ddd110, LD (HL),r is 01110sss. -/
theorem test_decode_load8 : decode 0b01_101_100 false = some .ldLH ∧ decode 0b00_100_110 false = some .ldHN ∧
    decode 0b01_010_110 false = some .ldDIndHL ∧ decode 0b01_110_011 false = some .ldIndHLE := by decide
/-- The fixed words of the load family (R77). -/
theorem test_decode_load8_fixed : decode 0x36 false = some .ldIndHLN ∧ decode 0x0A false = some .ldAIndBC ∧
    decode 0x1A false = some .ldAIndDE ∧ decode 0x02 false = some .ldIndBCA ∧ decode 0x12 false = some .ldIndDEA ∧
    decode 0x2A false = some .ldAIndHLI ∧ decode 0x3A false = some .ldAIndHLD ∧ decode 0x22 false = some .ldIndHLIA ∧
    decode 0x32 false = some .ldIndHLDA := by decide
theorem test_decode_load8_address : decode 0xFA false = some .ldAIndNn ∧ decode 0xEA false = some .ldIndNnA ∧
    decode 0xF0 false = some .ldhAIndN ∧ decode 0xE0 false = some .ldhIndNA ∧ decode 0xF2 false = some .ldAIndC ∧
    decode 0xE2 false = some .ldIndCA := by decide
/-- LD rr,nn is 00rr0001. -/
theorem test_decode_load16 : decode 0b00_10_0001 false = some .ldHLNn ∧ decode 0b00_11_0001 false = some .ldSPNn ∧
    decode 0xF9 false = some .ldSPHL ∧ decode 0x08 false = some .ldIndNnSP := by decide
/-- CP r is 10111sss. -/
theorem test_decode_compare : decode 0b10111_000 false = some .cpB ∧ decode 0b10111_110 false = some .cpIndHL ∧
    decode 0b10111_111 false = some .cpA ∧ decode 0b11111110 false = some .cpN := by decide
/-- INC r is 00ddd100, DEC r is 00ddd101, INC rr is 00rr0011, DEC rr is 00rr1011. -/
theorem test_decode_incdec : decode 0b00_111_100 false = some .incA ∧ decode 0b00_110_101 false = some .decIndHL ∧
    decode 0b00_01_0011 false = some .incDE ∧ decode 0b00_11_1011 false = some .decSP := by decide
/-- RL r is CB 00010sss, BIT b,r is CB 01bbbsss; CB 76 is BIT 6,(HL), not HALT (V-CB-12). -/
theorem test_decode_cb : decode 0b00010_001 true = some .rlC ∧ decode 0b00010_110 true = some .rlIndHL ∧
    decode 0b01_011_111 true = some .bit3A ∧ decode 0x76 true = some .bit6IndHL ∧ decode 0x76 false = none := by decide
/-- PUSH qq is 11qq0101; pair code 3 is af here and sp in the other pair forms (R73). -/
theorem test_decode_stack : decode 0b11_00_0101 false = some .pushBC ∧ decode 0b11_11_0101 false = some .pushAF := by decide
/-- Whole instructions in memory (P1, P3). -/
theorem test_decodeBytes_whole :
    decodeBytes [0x31, 0xFE, 0xFF, 0x01] = .ok ({ instr := .ldSPNn, imm := [0xFE, 0xFF] }, [0x01]) ∧
    decodeBytes [0xCB, 0x11] = .ok ({ instr := .rlC, imm := [] }, []) := by decide
theorem test_decodeBytes_rejects_by_name :
    decodeBytes [0xD3] = .error (.unmappedOpcode 0xD3) ∧ decodeBytes [0xCB, 0xCB] = .error (.unmappedCbOpcode 0xCB) ∧
    decodeBytes [0x3E] = .error .truncated ∧ decodeBytes [] = .error .empty := by decide
theorem test_encode_writes_prefix_first : encode { instr := .bit6IndHL, imm := [] } = [0xCB, 0x76] ∧
    encode { instr := .ldIndNnSP, imm := [0x00, 0xC1] } = [0x08, 0x00, 0xC1] := by decide
/-- The opcode table's numbers: a CB row is 0xCBxx in 16 bits (log entry 6). -/
theorem test_table_numbers : decodeTableWord 8 0x41 = some .ldBC ∧ decodeTableWord 16 0xCB7C = some .bit7H ∧
    decodeTableWord 8 0xCB = some .prefixCB ∧ decodeTableWord 24 0x0000FA = some .ldAIndNn := by decide

/-- R83: the spelling of rows of the opcode table. -/
theorem test_syntaxText : Instr.syntaxText .ldIndHLIA = "LD (HL+),A" ∧ Instr.syntaxText .bit6IndHL = "BIT 6,(HL)" ∧
    Instr.syntaxText .ldhIndNA = "LDH (n),A" ∧ Instr.syntaxText .pushAF = "PUSH AF" := by decide

/-- R27: Z, N, H and C are bits 7, 6, 5 and 4 (f = 0x50 has N and C). -/
theorem test_flag_bits : (getFlag .z 0x50, getFlag .n 0x50, getFlag .h 0x50, getFlag .c 0x50) = (false, true, false, true) ∧
    setFlag .z true 0x00 = 0x80 ∧ setFlag .h false 0xFF = 0xDF := by decide

/-! ## Sequencing -/

/-- V-SEQ-2: NOP keeps every flag. -/
theorem test_nop_keeps_flags : regsAfter (vec 0x00 { base 0 with f := 0xF0 }) = some { base 0x0102 with f := 0xF0 } := by decide
/-- Trace T6, c1: PREFIX CB. -/
theorem test_prefixCB_latches : ctxAfter (vec 0xCB (base 0) [(0x0101, 0x16)]) =
    some { opcode := 0x16, prefixed := true, step := 0, scratch8 := 0, scratch16 := 0 } := by decide

/-! ## 8-bit loads -/

/-- V-L8-1. -/
theorem test_ldBC : regsAfter (vec 0x41 { base 0 with c := 0x5A }) = some { base 0x0102 with b := 0x5A, c := 0x5A } := by decide
/-- V-L8-2. -/
theorem test_ldAA : regsAfter (vec 0x7F { base 0 with a := 0x77 }) = some { base 0x0102 with a := 0x77 } := by decide
/-- V-L8-3. -/
theorem test_ldHL : regsAfter (vec 0x65 { base 0 with h := 0x12, l := 0x34 }) = some { base 0x0102 with h := 0x34, l := 0x34 } := by
  decide
/-- V-L8-4, c1: the immediate goes to scratch8 and e is still 0. -/
theorem test_ldEN_reads_immediate : (stepped (vec 0x1E (base 0) [(0x0101, 0x9C)])).map (fun t => (t.ctx.scratch8, t.regs)) =
    some (0x9C, base 0x0102) := by decide
/-- V-L8-4, c2. -/
theorem test_ldEN_writes_register : regsAfter (st 0x1E false 1 (base 0x0102) 0x9C) = some { base 0x0103 with e := 0x9C } := by decide
/-- Trace T1, c1. -/
theorem test_ldDIndHL_reads : (stepped (vec 0x56 { base 0 with h := 0xC0, l := 0x10 } [(0xC010, 0xAB)])).map
    (fun t => (t.ctx.scratch8, t.ctx.step, t.regs.d)) = some (0xAB, 1, 0) := by decide
/-- V-L8-6, c2: LD H,(HL) overwrites the pointer half. -/
theorem test_ldHIndHL_overwrites_pointer : regsAfter (st 0x66 false 1 { base 0x0101 with h := 0xC0, l := 0x10 } 0xD0) =
    some { base 0x0102 with h := 0xD0, l := 0x10 } := by decide
/-- V-L8-7, c1. -/
theorem test_ldIndHLL_stores : ramAfter (vec 0x75 { base 0 with h := 0xC0, l := 0x20 }) = some [(0xC020, 0x20)] := by decide
/-- Trace T5, c2. -/
theorem test_ldIndHLN_stores : eventsAfter (st 0x36 false 1 { base 0x0102 with h := 0xC0, l := 0x30 } 0x5F) =
    some [{ kind := .write, address := 0xC030, data := 0x5F }] := by decide
/-- V-BC and V-L8-9: the address is {b, c}, not {b, b}. -/
theorem test_ldAIndBC_joins_b_and_c : (stepped (vec 0x0A { base 0 with b := 0xC1, c := 0x00 } [(0xC100, 0x11), (0xC1C1, 0x22)])).map
    (fun t => t.ctx.scratch8) = some 0x11 := by decide
/-- V-L8-10, c1. -/
theorem test_ldAIndDE : (stepped (vec 0x1A { base 0 with d := 0xC2, e := 0x05 } [(0xC205, 0x3C)])).map (fun t => t.ctx.scratch8) =
    some 0x3C := by decide
/-- V-L8-11, c1. -/
theorem test_ldIndBCA : ramAfter (vec 0x02 { base 0 with a := 0x05, b := 0xC1 }) = some [(0xC100, 0x05)] := by decide
/-- V-L8-12, c1. -/
theorem test_ldIndDEA : ramAfter (vec 0x12 { base 0 with a := 0x06, d := 0xC2, e := 0x07 }) = some [(0xC207, 0x06)] := by decide
/-- V-L8-14, c1: hl wraps up. -/
theorem test_ldAIndHLI_wraps : (stepped (vec 0x2A { base 0 with h := 0xFF, l := 0xFF } [(0xFFFF, 0x99)])).map
    (fun t => (t.ctx.scratch8, t.hl)) = some (0x99, 0x0000) := by decide
/-- V-L8-15, c1: hl wraps down. -/
theorem test_ldAIndHLD_wraps : regsAfter (vec 0x3A (base 0)) = some { base 0x0101 with h := 0xFF, l := 0xFF } := by decide
/-- V-L8-16, c1. -/
theorem test_ldIndHLIA : (stepped (vec 0x22 { base 0 with a := 0x55, h := 0xC0 })).map (fun t => (t.bus.ram, t.hl)) =
    some ([(0xC000, 0x55)], 0xC001) := by decide
/-- V-L8-17, c1. -/
theorem test_ldIndHLDA : (stepped (vec 0x32 { base 0 with a := 0x66, h := 0xC1 })).map (fun t => (t.bus.ram, t.hl)) =
    some ([(0xC100, 0x66)], 0xC0FF) := by decide
/-- Trace T4, c2: the second immediate byte is the high one. -/
theorem test_ldAIndNn_high_byte_second : (stepped (st 0xFA false 1 (base 0x0102) 0 0x0000 [(0x0102, 0xC0)])).map
    (fun t => (t.ctx.scratch16, t.regs.pc)) = some (0xC000, 0x0103) := by decide
/-- Trace T4, c3. -/
theorem test_ldAIndNn_reads : (stepped (st 0xFA false 2 (base 0x0103) 0 0xC000 [(0xC000, 0x77)])).map (fun t => t.ctx.scratch8) =
    some 0x77 := by decide
/-- V-L8-19, c3. -/
theorem test_ldIndNnA : ramAfter (st 0xEA false 2 { base 0x0103 with a := 0x88 } 0 0xC234) = some [(0xC234, 0x88)] := by decide
/-- V-L8-20, c1. -/
theorem test_ldhAIndN_address : (stepped (vec 0xF0 (base 0) [(0x0101, 0x44)])).map (fun t => t.ctx.scratch16) = some 0xFF44 := by
  decide
/-- V-L8-21, c2. -/
theorem test_ldhIndNA : ramAfter (st 0xE0 false 1 { base 0x0102 with a := 0x01 } 0 0xFF00) = some [(0xFF00, 0x01)] := by decide
/-- V-L8-22, c1. -/
theorem test_ldAIndC : (stepped (vec 0xF2 { base 0 with c := 0xFF } [(0xFFFF, 0x1F)])).map (fun t => t.ctx.scratch8) = some 0x1F := by
  decide
/-- V-L8-23, c1. -/
theorem test_ldIndCA : ramAfter (vec 0xE2 { base 0 with a := 0x80, c := 0x46 }) = some [(0xFF46, 0x80)] := by decide

/-! ## 16-bit loads -/

/-- V-L16-1, c3: both halves in one row. -/
theorem test_ldBCNn : regsAfter (st 0x01 false 2 (base 0x0103) 0 0x1234) = some { base 0x0104 with b := 0x12, c := 0x34 } := by decide
/-- V-L16-2, c3. -/
theorem test_ldSPNn : regsAfter (st 0x31 false 2 (base 0x0103) 0 0xFFFE) = some { base 0x0104 with sp := 0xFFFE } := by decide
/-- V-L16-4, c1 (trace T9): the copy, with no bus event. -/
theorem test_ldSPHL : (stepped (vec 0xF9 { base 0 with h := 0xDF, l := 0xF0 })).map (fun t => (t.regs.sp, t.bus.events)) =
    some (0xDFF0, []) := by decide
/-- Trace T3, c3: the low byte of sp at nn. -/
theorem test_ldIndNnSP_low : eventsAfter (st 0x08 false 2 { base 0x0103 with sp := 0xFFF8 } 0 0xC100) =
    some [{ kind := .write, address := 0xC100, data := 0xF8 }] := by decide
/-- V-L16-6, c4: the address of the second write wraps from FFFF to 0000. -/
theorem test_ldIndNnSP_wraps : eventsAfter (st 0x08 false 3 { base 0x0103 with sp := 0xABCD } 0 0xFFFF) =
    some [{ kind := .write, address := 0x0000, data := 0xAB }] := by decide

/-! ## Compare -/

/-- V-CP-1. -/
theorem test_cpB : regsAfter (vec 0xB8 { base 0 with a := 0x3C, b := 0x2F }) =
    some { base 0x0102 with a := 0x3C, b := 0x2F, f := 0x60 } := by decide
/-- V-CP-2: CP clears a set carry. -/
theorem test_cpA : regsAfter (vec 0xBF { base 0 with a := 0x9A, f := 0x30 }) = some { base 0x0102 with a := 0x9A, f := 0xC0 } := by
  decide
/-- V-CP-3. -/
theorem test_cpC : (regsAfter (vec 0xB9 { base 0 with a := 0x10, c := 0x20 })).map Regs.f = some 0x50 := by decide
/-- V-CP-6, c2. -/
theorem test_cpIndHL : (regsAfter (st 0xBE false 1 { base 0x0101 with a := 0x10, h := 0xC0 } 0x10)).map Regs.f = some 0xC0 := by decide
/-- V-CP-8, c2. -/
theorem test_cpN : (regsAfter (st 0xFE false 1 { base 0x0102 with a := 0xFF } 0x00)).map Regs.f = some 0x40 := by decide
/-- V-CP-9, c2. -/
theorem test_cpN_borrows : (regsAfter (st 0xFE false 1 (base 0x0102) 0xFF)).map Regs.f = some 0x70 := by decide

/-! ## Increment and decrement -/

/-- V-ID-1. -/
theorem test_incA : regsAfter (vec 0x3C { base 0 with a := 0x0F }) = some { base 0x0102 with a := 0x10, f := 0x20 } := by decide
/-- V-ID-2: the wrap, with C kept. -/
theorem test_incB_keeps_carry : regsAfter (vec 0x04 { base 0 with b := 0xFF, f := 0x10 }) = some { base 0x0102 with f := 0xB0 } := by
  decide
/-- V-ID-5, c2 (trace T2). -/
theorem test_incIndHL : (stepped (st 0x34 false 1 { base 0x0101 with h := 0xC0 } 0xFF 0 [(0xC000, 0xFF)])).map
    (fun t => (t.regs.f, t.bus.ram, t.bus.events)) =
    some (0xA0, [], [{ kind := .write, address := 0xC000, data := 0x00 }]) := by decide
/-- V-ID-6. -/
theorem test_decC : regsAfter (vec 0x0D { base 0 with c := 0x01 }) = some { base 0x0102 with f := 0xC0 } := by decide
/-- V-ID-7: the wrap, with C kept. -/
theorem test_decE_keeps_carry : regsAfter (vec 0x1D { base 0 with f := 0x10 }) = some { base 0x0102 with e := 0xFF, f := 0x70 } := by
  decide
/-- V-ID-8. -/
theorem test_decH : regsAfter (vec 0x25 { base 0 with h := 0x10 }) = some { base 0x0102 with h := 0x0F, f := 0x60 } := by decide
/-- V-ID-10, c2. -/
theorem test_decIndHL : (stepped (st 0x35 false 1 { base 0x0101 with h := 0xC0 } 0x00)).map (fun t => (t.regs.f, t.bus.ram)) =
    some (0x60, [(0xC000, 0xFF)]) := by decide
/-- V-ID-11, c1: carry into d, flags kept. -/
theorem test_incDE : regsAfter (vec 0x13 { base 0 with e := 0xFF, f := 0xA0 }) = some { base 0x0101 with d := 0x01, f := 0xA0 } := by
  decide
/-- V-ID-13, c1. -/
theorem test_incSP_wraps : regsAfter (vec 0x33 { base 0 with sp := 0xFFFF }) = some (base 0x0101) := by decide
/-- V-ID-14, c1. -/
theorem test_decBC : regsAfter (vec 0x0B { base 0 with b := 0x01 }) = some { base 0x0101 with c := 0xFF } := by decide
/-- V-ID-15, c1. -/
theorem test_decSP_wraps : regsAfter (vec 0x3B (base 0)) = some { base 0x0101 with sp := 0xFFFF } := by decide

/-! ## CB table -/

/-- V-CB-1, c2, the source's vector. -/
theorem test_rlC : regsAfter (st 0x11 true 0 { base 0x0102 with c := 0x81 }) = some { base 0x0103 with c := 0x02, f := 0x10 } := by decide
/-- V-CB-2, c2: carry in. -/
theorem test_rlB_carry_in : regsAfter (st 0x10 true 0 { base 0x0102 with b := 0x81, f := 0x10 }) =
    some { base 0x0103 with b := 0x03, f := 0x10 } := by decide
/-- V-CB-5, c2: Z from the result. -/
theorem test_rlA_sets_zero : regsAfter (st 0x17 true 0 (base 0x0102)) = some { base 0x0103 with f := 0x80 } := by decide
/-- V-CB-6, c2: N and H cleared. -/
theorem test_rlH_clears_n_and_h : regsAfter (st 0x14 true 0 { base 0x0102 with h := 0x01, f := 0x60 }) =
    some { base 0x0103 with h := 0x02 } := by decide
/-- V-CB-7, c3 (trace T6). -/
theorem test_rlIndHL : (stepped (st 0x16 true 1 { base 0x0102 with h := 0xC0, f := 0x10 } 0x40 0 [(0xC000, 0x40)])).map
    (fun t => (t.regs.f, t.bus.ram)) = some (0x00, [(0xC000, 0x81)]) := by decide
/-- V-CB-8, c2. -/
theorem test_bit7H : (regsAfter (st 0x7C true 0 { base 0x0102 with h := 0x80, f := 0x10 })).map Regs.f = some 0x30 := by decide
/-- V-CB-9, c2. -/
theorem test_bit0B : (regsAfter (st 0x40 true 0 { base 0x0102 with b := 0xFE })).map Regs.f = some 0xA0 := by decide
/-- V-CB-10, c2: C kept, N cleared. -/
theorem test_bit3A : (regsAfter (st 0x5F true 0 { base 0x0102 with a := 0x08, f := 0x50 })).map Regs.f = some 0x30 := by decide
/-- V-CB-12, c3 (trace T7). -/
theorem test_bit6IndHL : regsAfter (st 0x76 true 1 { base 0x0102 with h := 0xC0 } 0x40) =
    some { base 0x0103 with h := 0xC0, f := 0x20 } := by decide

/-! ## Stack -/

/-- V-ST-1, c1 (trace T8): the value is captured, with no bus event. -/
theorem test_pushBC_captures : (stepped (vec 0xC5 { base 0 with b := 0x12, c := 0x34, sp := 0xFFFE })).map
    (fun t => (t.ctx.scratch16, t.bus.events, t.regs.sp)) = some (0x1234, [], 0xFFFE) := by decide
/-- V-ST-1, c2 (trace T8): the high byte first. -/
theorem test_pushBC_high : (stepped (st 0xC5 false 1 { base 0x0101 with sp := 0xFFFE } 0 0x1234)).map
    (fun t => (t.bus.ram, t.regs.sp)) = some ([(0xFFFD, 0x12)], 0xFFFD) := by decide
/-- V-ST-3, c3: sp wraps, 0000 then FFFF. -/
theorem test_pushHL_wraps : (stepped (st 0xE5 false 2 { base 0x0101 with sp := 0x0000 } 0 0x1122 [(0x0000, 0x11)])).map
    (fun t => (t.bus.ram, t.regs.sp)) = some ([(0x0000, 0x11), (0xFFFF, 0x22)], 0xFFFF) := by decide
/-- V-ST-4, c1. -/
theorem test_pushAF_captures : (stepped (vec 0xF5 { base 0 with a := 0x12, f := 0xB0 })).map (fun t => t.ctx.scratch16) = some 0x12B0 := by
  decide

/-! ## The fatal fault, reset, and the two refusals -/

/-- V-F-1. -/
theorem test_fault_D3 : step (vec 0xD3 (base 0)) =
    .next { vec 0xD3 (base 0) with fault := some { prefixed := false, opcode := 0xD3, pc := 0x0101 } } := rfl
/-- V-F-4, second call: CB CB is no second prefix. -/
theorem test_fault_CB_CB : (stepped (st 0xCB true 0 (base 0x0102))).map State.fault =
    some (some { prefixed := true, opcode := 0xCB, pc := 0x0102 }) := by decide
/-- V-F-6: the second call returns the same record. -/
theorem test_fault_is_latched : step { vec 0xD3 (base 0) with fault := some { prefixed := false, opcode := 0xD3, pc := 0x0101 } } =
    .fault (.fatalFault { prefixed := false, opcode := 0xD3, pc := 0x0101 }) := rfl
/-- P6: reset with `BOOT_REGS` pc = FFFD, a = 7F: cycle 1 reads FFFD. -/
theorem test_reset_boot_regs : eventsAfter (State.resetOn
    (some { a := 0x7F, f := 0, b := 0, c := 0, d := 0, e := 0, h := 0, l := 0, sp := 0, pc := 0xFFFD })
    { Bus.empty with ram := [(0xFFFD, 0x21)] }) = some [{ kind := .read, address := 0xFFFD, data := 0x21 }] := by decide
/-- D14: reset masks f. -/
theorem test_reset_masks_f : (Regs.reset (some { Config.dmgProfile with f := 0xBF })).f = 0xB0 := by decide
/-- U6: a step index past the last row. -/
theorem test_refuses_step_past_last_row : step (st 0x00 false 1 (base 0)) = .refused .stepPastLastRow := rfl
/-- U2: a nonzero low nibble in f. -/
theorem test_refuses_low_nibble : step (vec 0x00 { base 0 with f := 0x01 }) = .refused .flagLowNibbleSet := rfl
/-- The host's placing: from reset, the step after it runs the row placed (log entry 5). -/
theorem test_withFetchWord : regsAfter (State.reset.withFetchWord 8 0x3C) = some { base 0x0002 with a := 0x01 } ∧
    regsAfter (State.reset.withFetchWord 16 0xCB17) = some { base 0x0003 with f := 0x80 } := by decide
/-- A scripted answer stands before the RAM, for one read (log entry 1). -/
theorem test_scripted_answer : (stepped { vec 0x00 (base 0) with
    bus := { ram := [(0x0101, 0x11)], answers := [some 0x22, some 0x33], events := [] } }).map
    (fun t => (t.ctx.opcode, t.bus.answers)) = some (0x22, [some 0x33]) := by decide

/-! ## Witnesses: states and operands that meet the hypotheses of each statement that has any -/

theorem witness_FetchReadsOpcodeAtPcAndResetsCursor : (st 0x00 false 0 (base 0xFFFF)).regs.pc = 0xFFFF ∧
    (st 0x00 false 0 (base 0xFFFF)).fetch.regs.pc = 0x0000 := by decide
theorem witness_BusReadsReturnTheLastByteWritten :
    (st 0x00 false 0 (base 0) (mem := [(0x0000, 0x01), (0xFFFF, 0x02)])).bus.ram.wf = true ∧
    (st 0x00 false 0 (base 0) (mem := [(0x0000, 0x01), (0xFFFF, 0x02)])).bus.answers = [] ∧ (0x0000 : Word) ≠ 0xFFFF ∧
    { Bus.empty with answers := [some 0x22, none] }.answers = some 0x22 :: [none] ∧
    { Bus.empty with answers := [none, some 0x22] }.answers = none :: [some 0x22] := by decide
theorem witness_FlagSetterChangesOneBit : (3 : Nat) ≠ 4 ∧ (Flag.c, 4) ∈ [(Flag.z, 7), (.n, 6), (.h, 5), (.c, 4)] ∧ Flag.z ≠ .c ∧
    setFlag .z true (setFlag .c true 0x08) = 0x98 := by decide
theorem witness_NopOnlyFetches : rowsRun 0x00 false .nop = true := by decide
theorem witness_PrefixCbLatchesTheCbOpcode : rowsRun 0xCB false .prefixCB = true := by decide
theorem witness_LoadRegisterFromRegister : rowsRun 0x40 false .ldBB = true ∧ rowsRun 0x7F false .ldAA = true := by decide
theorem witness_LoadRegisterFromImmediate : rowsRun 0x06 false .ldBN = true ∧ rowsRun 0x3E false .ldAN = true := by decide
theorem witness_LoadRegisterFromMemoryAtHl : rowsRun 0x46 false .ldBIndHL = true ∧ rowsRun 0x66 false .ldHIndHL = true := by decide
theorem witness_StoreToMemoryAtHl : rowsRun 0x70 false .ldIndHLB = true ∧ rowsRun 0x77 false .ldIndHLA = true ∧
    rowsRun 0x36 false .ldIndHLN = true := by decide
theorem witness_LoadStoreAThroughBcOrDe : rowsRun 0x0A false .ldAIndBC = true ∧ rowsRun 0x1A false .ldAIndDE = true ∧
    rowsRun 0x02 false .ldIndBCA = true ∧ rowsRun 0x12 false .ldIndDEA = true := by decide
theorem witness_LoadStoreAThroughHlWithUpdate : rowsRun 0x2A false .ldAIndHLI = true ∧ rowsRun 0x3A false .ldAIndHLD = true ∧
    rowsRun 0x22 false .ldIndHLIA = true ∧ rowsRun 0x32 false .ldIndHLDA = true := by decide
theorem witness_LoadStoreAAtAbsoluteAddress : rowsRun 0xFA false .ldAIndNn = true ∧ rowsRun 0xEA false .ldIndNnA = true := by decide
theorem witness_LoadStoreAInHighPage : rowsRun 0xF0 false .ldhAIndN = true ∧ rowsRun 0xE0 false .ldhIndNA = true ∧
    rowsRun 0xF2 false .ldAIndC = true ∧ rowsRun 0xE2 false .ldIndCA = true := by decide
theorem witness_LoadPairFromImmediate : rowsRun 0x01 false .ldBCNn = true ∧ rowsRun 0x31 false .ldSPNn = true := by decide
theorem witness_LoadSpFromHlAndStoreSp : rowsRun 0xF9 false .ldSPHL = true ∧ rowsRun 0x08 false .ldIndNnSP = true := by decide
theorem witness_CompareWithEachSource : rowsRun 0xB8 false .cpB = true ∧ rowsRun 0xBE false .cpIndHL = true ∧
    rowsRun 0xFE false .cpN = true := by decide
theorem witness_IncrementDecrementRegister : rowsRun 0x04 false .incB = true ∧ rowsRun 0x3D false .decA = true := by decide
theorem witness_IncrementDecrementMemoryAtHl : rowsRun 0x34 false .incIndHL = true ∧ rowsRun 0x35 false .decIndHL = true := by decide
theorem witness_IncrementDecrementPair : rowsRun 0x03 false .incBC = true ∧ rowsRun 0x3B false .decSP = true := by decide
theorem witness_RotateLeftThroughCarry : rowsRun 0x10 true .rlB = true ∧ rowsRun 0x16 true .rlIndHL = true := by decide
theorem witness_TestBitOfEachSource : rowsRun 0x40 true .bit0B = true ∧ rowsRun 0x7F true .bit7A = true ∧
    rowsRun 0x7E true .bit7IndHL = true := by decide
theorem witness_PushPair : rowsRun 0xC5 false .pushBC = true ∧ rowsRun 0xF5 false .pushAF = true := by decide

/-- The conditions of `ReadyFor` as a Bool, so that witnesses compute. -/
def readyFor (i : Instr) (s : State) : Bool :=
  decide (s.fault = none) && flagLowNibbleClear s.regs.f && decide (s.latched = some i) && decide (s.ctx.step = 0)

theorem readyFor_sound {i : Instr} {s : State} (h : readyFor i s = true) : s.ReadyFor i := by
  simp only [readyFor, Bool.and_eq_true, decide_eq_true_eq] at h
  exact ⟨h.1.1.1, h.1.1.2, h.1.2, h.2⟩

theorem witness_LoadPairImmediateWholeRun : decode (opXP 0b00 (PairRR.code .sp) 0b0001) false = some .ldSPNn ∧
    (st 0x31 false 0 (base 0xFFFE)).ReadyFor .ldSPNn := ⟨by decide, readyFor_sound (by decide)⟩
theorem witness_LoadAAbsoluteWholeRun : decode 0xFA false = some .ldAIndNn ∧
    (st 0xFA false 0 (base 0xFFFF)).ReadyFor .ldAIndNn := ⟨by decide, readyFor_sound (by decide)⟩
/-- One state for each of the three clauses. -/
theorem witness_ReadModifyWriteWholeRun :
    (vec 0x34 { base 0 with h := 0xC0 }).bus.answers = [] ∧ (vec 0x34 { base 0 with h := 0xC0 }).ReadyFor .incIndHL ∧
    (vec 0x35 { base 0 with h := 0xC0 }).ReadyFor .decIndHL ∧ (st 0x16 true 0 { base 0x0102 with h := 0xC0 }).ReadyFor .rlIndHL :=
  ⟨rfl, readyFor_sound (by decide), readyFor_sound (by decide), readyFor_sound (by decide)⟩
theorem witness_PushWholeRunLeavesLittleEndianPair : decode (opXP 0b11 (PairQQ.code .af) 0b0101) false = some .pushAF ∧
    (vec 0xF5 { base 0 with f := 0xF0, sp := 0x0001 }).bus.answers = [] ∧
    (vec 0xF5 { base 0 with f := 0xF0, sp := 0x0001 }).bus.ram.wf = true ∧
    (vec 0xF5 { base 0 with f := 0xF0, sp := 0x0001 }).ReadyFor .pushAF := ⟨by decide, rfl, rfl, readyFor_sound (by decide)⟩
theorem witness_StoreToNextOpcodeIsFetched :
    (decode (opXYZ 0b01 0b110 (Reg8.code .a)) false = some .ldIndHLA ∧
      (vec 0x77 { base 0 with h := 0x01, l := 0x01 }).ReadyFor .ldIndHLA ∧
      (vec 0x77 { base 0 with h := 0x01, l := 0x01 }).hl = 0x0101) ∧
    (st 0x36 false 0 (base 0xFFFF)).ReadyFor .ldIndHLN ∧ (st 0x36 false 0 (base 0xFFFF)).hl = 0xFFFF + 1 :=
  ⟨⟨by decide, readyFor_sound (by decide), by decide⟩, readyFor_sound (by decide), by decide⟩

/-- V-CB-1's start: PREFIX CB latched, the cb-opcode at pc. -/
theorem witness_WholeInstructionReachesTheNextBoundary :
    (vec 0xCB { base 0 with c := 0x81 } [(0x0101, 0x11)]).WholeReady .rlC ∧ (vec 0x00 (base 0)).WholeReady .nop :=
  ⟨⟨⟨rfl, rfl, rfl⟩, rfl, by decide, by decide⟩, ⟨⟨rfl, rfl, rfl⟩, rfl, by decide, by decide⟩⟩
/-- V-S1: INC B then DEC B. -/
theorem witness_StraightLineRunTakesTheSumOfCycles :
    (vec 0x04 { base 0 with b := 0xFF } [(0x0101, 0x05)]).AtBoundary ∧
    FollowEachOther [.incB, .decB] (vec 0x04 { base 0 with b := 0xFF } [(0x0101, 0x05)]) := by
  refine ⟨⟨rfl, rfl, rfl⟩, ⟨⟨rfl, rfl, rfl⟩, rfl, by decide, by decide⟩, fun t ht => ?_⟩
  have : run (Instr.totalCycles .incB) (vec 0x04 { base 0 with b := 0xFF } [(0x0101, 0x05)]) =
    .next (vec 0x04 { base 0 with b := 0xFF } [(0x0101, 0x05)] |>.incReg8 .b |>.fetch) := rfl
  cases this.symm.trans ht
  exact ⟨⟨⟨rfl, rfl, rfl⟩, by decide, by decide, by decide⟩, fun _ _ => trivial⟩

/-- A row before the last and a last row. -/
theorem witness_EveryRowCompletesAndOnlyTheLastFetches : Instr.ldIndNnSP ≠ .prefixCB ∧
    (st 0x08 false 3 (base 0)).ctx.step + 1 < Instr.ldIndNnSP.cycles ∧
    (st 0x08 false 4 (base 0)).ctx.step + 1 = Instr.ldIndNnSP.cycles := by decide
theorem witness_StepPastTheLastRowIsRefused : Instr.nop.cycles ≤ (st 0x00 false 1 (base 0)).ctx.step ∧
    Instr.ldIndNnSP.cycles ≤ (st 0x08 false 5 (base 0)).ctx.step := by decide

/-- Rows that answer a next state, in each kind of bus slot: internal, data write, stack write, data read, immediate, FETCH. -/
theorem witness_BusPatternFollowsTheTimingTable : rowRuns 0xF9 false .ldSPHL 0 = true ∧ rowRuns 0x77 false .ldIndHLA 0 = true ∧
    rowRuns 0xC5 false .pushBC 1 = true ∧ rowRuns 0x46 false .ldBIndHL 0 = true ∧ rowRuns 0x06 false .ldBN 0 = true ∧
    rowRuns 0x00 false .nop 0 = true := by decide
theorem witness_AtMostOneBusEventPerCycle : (eventsAfter (vec 0x00 (base 0))).map List.length = some 1 ∧
    (eventsAfter (vec 0xF9 (base 0))).map List.length = some 0 := by decide
theorem witness_RowsStoreOnlyAtTheStoreAddress : rowRuns 0x77 false .ldIndHLA 0 = true ∧
    Instr.storeAddress .ldIndHLA (vec 0x77 { base 0 with h := 0xFF, l := 0xFF }) = some 0xFFFF ∧
    Instr.storeAddress .ldIndHLA (vec 0x77 { base 0 with h := 0xFF, l := 0xFF }) ≠ some 0x0000 ∧
    Instr.storeAddress .pushBC (st 0xC5 false 1 (base 0)) = some 0xFFFF ∧
    Instr.storeAddress .cpIndHL (vec 0xBE (base 0)) = none := by decide
theorem witness_RowsWriteOnlyTheFormsRegisters : rowRuns 0x41 false .ldBC 0 = true ∧
    Reg8.c ∉ destRegs (Instr.form .ldBC) ∧ writesSp (Instr.form .ldBC) = false := by decide
theorem witness_RowsWriteOnlyTheFormsFlags : rowRuns 0x04 false .incB 0 = true ∧ Flag.c ∉ flagsWritten (Instr.form .incB) ∧
    Flag.z ∉ flagsWritten (Instr.form .incBC) := by decide
theorem witness_PcAdvancesOnlyWithReadsAtPc : (regsAfter (st 0x00 false 0 (base 0xFFFF))).map Regs.pc = some 0x0000 ∧
    (regsAfter (st 0xC5 false 0 (base 0xFFFF))).map Regs.pc = some 0xFFFF := by decide
theorem witness_DecodeBytesOfEncodeGivesItBack : Code.wellFormed { instr := .bit7A, imm := [] } = true ∧
    Code.wellFormed { instr := .ldAIndNn, imm := [0xFF, 0xFF] } = true := by decide
theorem witness_EncodeOfDecodedBytesGivesThemBack :
    decodeBytes [0xFA, 0x00, 0xC0, 0xD3] = .ok ({ instr := .ldAIndNn, imm := [0x00, 0xC0] }, [0xD3]) := by decide
theorem witness_TableNumberIsFetchedAndRun : flagLowNibbleClear State.reset.regs.f = true := by decide
/-- A state for each of the four clauses. -/
theorem witness_StepRunsTheLatchedInstruction :
    (vec 0xD3 (base 0)).raiseFatalFault.fault = some { prefixed := false, opcode := 0xD3, pc := 0x0101 } ∧
    decode (vec 0x00 { base 0 with f := 0xF0 }).ctx.opcode false = some .nop ∧ (0xF0 : Byte) &&& 0x0F = 0 ∧
    decode (vec 0xD3 (base 0)).ctx.opcode false = none ∧ (vec 0x00 { base 0 with f := 0x01 }).regs.f &&& 0x0F ≠ 0 := by decide
theorem witness_BytesAtPcAreFetchedAndRun :
    (st 0x00 false 0 (base 0xFFFF) (mem := [(0x0000, 0x7C), (0xFFFF, 0xCB)])).bus.answers = [] ∧
    decodeBytes [Memory.read [(0x0000, 0x7C), (0xFFFF, 0xCB)] 0xFFFF, Memory.read [(0x0000, 0x7C), (0xFFFF, 0xCB)] (0xFFFF + 1),
      Memory.read [(0x0000, 0x7C), (0xFFFF, 0xCB)] (0xFFFF + 2)] = .ok ({ instr := .bit7H, imm := [] }, [0x00]) := by decide
theorem witness_UnmappedOpcodeRaisesFatalFault : (vec 0xD3 (base 0)).fault = none ∧
    flagLowNibbleClear (vec 0xD3 (base 0)).regs.f = true ∧
    decode (vec 0xD3 (base 0)).ctx.opcode (vec 0xD3 (base 0)).ctx.prefixed = none := by decide
theorem witness_LatchedFaultIsTerminalUntilReset :
    { vec 0xD3 (base 0) with fault := some { prefixed := false, opcode := 0xD3, pc := 0x0101 } }.fault =
      some { prefixed := false, opcode := 0xD3, pc := 0x0101 } := rfl

/-- The invariant's conditions as a Bool for a state with a mapped opcode and no fault. -/
def invMapped (i : Instr) (s : State) : Bool :=
  flagLowNibbleClear s.regs.f && s.bus.ram.wf && decide (s.latched = some i) && decide (s.ctx.step < i.cycles) &&
  decide (s.ctx.step = 0 → s.ctx.scratch8 = 0 ∧ s.ctx.scratch16 = 0) && decide (s.fault = none)

theorem invMapped_sound {i : Instr} {s : State} (h : invMapped i s = true) : s.Inv := by
  simp only [invMapped, Bool.and_eq_true, decide_eq_true_eq] at h
  obtain ⟨⟨⟨⟨⟨h1, h2⟩, h3⟩, h4⟩, h5⟩, h6⟩ := h
  exact ⟨h1, h2, fun j hj => Option.some.inj (h3.symm.trans hj) ▸ h4, fun hn => absurd (h3.symm.trans hn) (by simp), h5,
    fun r hr => absurd (h6.symm.trans hr) (by simp)⟩

/-- A mapped state, and the faulted state of V-F-1. -/
theorem witness_ReturnedValueReportsTheFault : (st 0x08 false 4 { base 0xFFFF with f := 0xF0 } 0 0xC100).Inv ∧
    (vec 0xD3 (base 0)).raiseFatalFault.Inv := by
  refine ⟨invMapped_sound (i := .ldIndNnSP) (by decide), ⟨rfl, rfl, fun i hi => ?_, fun _ => rfl, fun _ => ⟨rfl, rfl⟩, fun r hr => ?_⟩⟩
  · exact absurd (show none = some i from hi) (by simp)
  · cases hr; exact ⟨by decide, rfl⟩
theorem witness_PrefixCbLeadsToTheCbTable : (vec 0xCB (base 0)).AtBoundary ∧ (vec 0xCB (base 0)).ctx.opcode = 0xCB ∧
    decode ((vec 0xCB (base 0) [(0x0101, 0x7C)]).busAnswer 0x0101) true = some .bit7H ∧
    decode ((vec 0xCB (base 0)).busAnswer 0x0101) true = none ∧ (vec 0xCB (base 0) [(0x0101, 0xCB)]).busAnswer 0x0101 = 0xCB :=
  ⟨⟨rfl, rfl, rfl⟩, rfl, by decide, by decide, by decide⟩
theorem witness_ResetPutsEveryPieceOfStateToItsValue : (State.reset.resetCore (some Config.dmgProfile)).regs.f = 0xB0 ∧
    (State.reset.resetCore none).regs.pc = 0x0000 := by decide
theorem witness_ResetMeetsTheInvariant : Bus.empty.ram.wf = true ∧ State.reset.Inv :=
  ⟨rfl, invMapped_sound (i := .nop) (by decide)⟩
theorem witness_EveryStepKeepsTheInvariant : (vec 0x77 { base 0 with a := 0x05 }).Inv ∧
    (stepped (vec 0x77 { base 0 with a := 0x05 })).isSome = true := ⟨invMapped_sound (i := .ldIndHLA) (by decide), by decide⟩
theorem witness_ReachableStatesNeverGetStuck : Reachable State.reset ∧ State.reset.fault = none ∧ State.reset.Inv ∧
    Reachable State.reset.fetch :=
  ⟨.reset none Bus.empty rfl, rfl, invMapped_sound (i := .nop) (by decide), .step (.reset none Bus.empty rfl) rfl⟩
/-- Two states whose RAMs differ, with one scripted answer. -/
theorem witness_CoreSeesTheBusOnlyThroughAnswers :
    let s := { vec 0x00 (base 0) with bus := { ram := [], answers := [some 0x22], events := [] } }
    let t := { vec 0x00 (base 0) with bus := { ram := [(0x0101, 0x11)], answers := [some 0x22], events := [] } }
    s.regs = t.regs ∧ s.ctx = t.ctx ∧ s.fault = t.fault ∧ s.bus.ram ≠ t.bus.ram ∧
    s.bus.answers.head? = some (some 0x22) ∧ t.bus.answers.head? = some (some 0x22) := by decide
theorem witness_CanonicalMemoriesThatReadAlikeAreEqual : Memory.wf [(0x0000, 0x01), (0xFFFF, 0x02)] = true ∧
    Memory.wf [(0x0001, 0x00)] = false := by decide

end Sys2Proof.Tests
end

section
/-!
PROOFS. Joining and splitting words as arithmetic (00_scope.md R11), the composite views and 16-bit writes as arithmetic
(10_state.md R25, R26), and the obligation about the accessors of the state.
-/

namespace Sys2Proof.Machine

/-! ## Halves and pairs as numbers -/

theorem pairOf_toNat (hi lo : Byte) : (pairOf hi lo).toNat = 256 * hi.toNat + lo.toNat := by
  have hhi := hi.isLt
  have hlo : lo.toNat < 2 ^ 8 := lo.isLt
  have noOverflow : hi.toNat <<< 8 % 2 ^ 16 = hi.toNat <<< 8 := Nat.mod_eq_of_lt (by rw [Nat.shiftLeft_eq]; omega)
  simp only [pairOf, BitVec.truncate_eq_setWidth, BitVec.toNat_or, BitVec.toNat_shiftLeft,
    BitVec.toNat_setWidth_of_le (show 8 ≤ 16 by decide), noOverflow]
  rw [← Nat.shiftLeft_add_eq_or_of_lt hlo, Nat.shiftLeft_eq, Nat.mul_comm]

theorem hiByte_toNat (v : Word) : (hiByte v).toNat = v.toNat / 256 := by
  have hv := v.isLt
  rw [hiByte, BitVec.extractLsb'_toNat, Nat.shiftRight_eq_div_pow]
  omega

theorem loByte_toNat (v : Word) : (loByte v).toNat = v.toNat % 256 := by
  rw [loByte, BitVec.extractLsb'_toNat, Nat.shiftRight_zero]

theorem hiByte_eq_ofNat (v : Word) : hiByte v = BitVec.ofNat 8 (v.toNat / 256) := by
  rw [← hiByte_toNat, BitVec.ofNat_toNat, BitVec.setWidth_eq]

theorem loByte_eq_ofNat (v : Word) : loByte v = BitVec.ofNat 8 v.toNat :=
  BitVec.eq_of_toNat_eq (by rw [loByte_toNat, BitVec.toNat_ofNat])

/-! ## Which half a 16-bit write puts where -/

theorem Regs.set16_bc_eq (g : Regs) (v : Word) :
    g.set16 .bc v = { g with b := BitVec.ofNat 8 (v.toNat / 256), c := BitVec.ofNat 8 v.toNat } := by
  rw [← hiByte_eq_ofNat, ← loByte_eq_ofNat, Regs.set16]

theorem Regs.set16_de_eq (g : Regs) (v : Word) :
    g.set16 .de v = { g with d := BitVec.ofNat 8 (v.toNat / 256), e := BitVec.ofNat 8 v.toNat } := by
  rw [← hiByte_eq_ofNat, ← loByte_eq_ofNat, Regs.set16]

theorem Regs.set16_hl_eq (g : Regs) (v : Word) :
    g.set16 .hl v = { g with h := BitVec.ofNat 8 (v.toNat / 256), l := BitVec.ofNat 8 v.toNat } := by
  rw [← hiByte_eq_ofNat, ← loByte_eq_ofNat, Regs.set16]

theorem Regs.set16_af_eq (g : Regs) (v : Word) :
    g.set16 .af v = { g with a := BitVec.ofNat 8 (v.toNat / 256), f := BitVec.ofNat 8 v.toNat } := by
  rw [← hiByte_eq_ofNat, ← loByte_eq_ofNat, Regs.set16]

/-- Settles O3: the views and the 16-bit writes by the arithmetic of `pairOf`, `hiByte` and `loByte`; the 8-bit fields, the pair
fields and the named updates are the definitions' own equations. -/
theorem compositeViewsJoinHighAndLowHalves : Obligations.CompositeViewsJoinHighAndLowHalves := by
  unfold Obligations.CompositeViewsJoinHighAndLowHalves
  refine ⟨fun g => ?views, fun g => ?fields, ?pairs, fun hi lo v => ?halves, fun s v w => ?updates⟩
  case views =>
    exact ⟨pairOf_toNat g.a g.f, pairOf_toNat g.b g.c, pairOf_toNat g.d g.e, pairOf_toNat g.h g.l, rfl,
      g.set16_bc_eq, g.set16_de_eq, g.set16_hl_eq, g.set16_af_eq, fun _ => rfl⟩
  case fields => exact ⟨rfl, rfl, rfl, rfl, rfl, rfl, rfl, fun _ => ⟨rfl, rfl, rfl, rfl, rfl, rfl, rfl⟩⟩
  case pairs => exact ⟨rfl, rfl, rfl, rfl, rfl, rfl, rfl, rfl⟩
  case halves => exact ⟨pairOf_toNat hi lo, hiByte_toNat v, loByte_toNat v⟩
  case updates => exact ⟨fun _ => ⟨rfl, rfl⟩, fun _ => ⟨rfl, rfl⟩, rfl, rfl, rfl, rfl, rfl, rfl⟩

end Sys2Proof.Machine
end

section
/-!
PROOFS. The flag setter bit by bit (10_state.md R28, R29): one equation gives every bit of f after a setter, and the obligation
about the setters follows from it.
-/

namespace Sys2Proof.Machine

theorem Flag.bit_lt (x : Flag) : x.bit < 8 := by cases x <;> decide

theorem Flag.bit_ne {x y : Flag} (hxy : x ≠ y) : x.bit ≠ y.bit := by
  revert hxy
  cases x <;> cases y <;> decide

theorem setFlag_true (x : Flag) (f : Byte) : setFlag x true f = f ||| ((1 : Byte) <<< x.bit) := rfl

theorem setFlag_false (x : Flag) (f : Byte) : setFlag x false f = f &&& ~~~((1 : Byte) <<< x.bit) := rfl

/-- The mask of a setter has one bit, the flag's own. -/
theorem getLsbD_flagMask (x : Flag) (j : Nat) : ((1 : Byte) <<< x.bit).getLsbD j = decide (j = x.bit) := by
  have mask_eq : (1 : Byte) <<< x.bit = BitVec.twoPow 8 x.bit := rfl
  rw [mask_eq, BitVec.getLsbD_twoPow, decide_eq_true x.bit_lt, Bool.true_and, decide_eq_decide]
  exact eq_comm

/-- Every bit of f after a setter: the flag's own bit holds the value set, and the other seven are as they were (R29). -/
theorem getLsbD_setFlag (x : Flag) (v : Bool) (f : Byte) (j : Nat) :
    (setFlag x v f).getLsbD j = if j = x.bit then v else f.getLsbD j := by
  cases v with
  | true =>
    rw [setFlag_true, BitVec.getLsbD_or, getLsbD_flagMask]
    by_cases hj : j = x.bit <;> simp [hj]
  | false =>
    have inRange : f.getLsbD j = true → j < 8 := BitVec.lt_of_getLsbD
    rw [setFlag_false, BitVec.getLsbD_and, BitVec.getLsbD_not, getLsbD_flagMask]
    by_cases hj : j = x.bit
    · simp [hj]
    · simpa [hj] using inRange

/-- Setters of different flags commute: each bit is written by at most one of them. -/
theorem setFlag_comm {x y : Flag} (hxy : x ≠ y) (v w : Bool) (f : Byte) :
    setFlag x v (setFlag y w f) = setFlag y w (setFlag x v f) := by
  have bits_ne : x.bit ≠ y.bit := Flag.bit_ne hxy
  refine BitVec.eq_of_getLsbD_eq fun j _ => ?_
  simp only [getLsbD_setFlag]
  by_cases hj : j = x.bit
  · simp [hj, bits_ne]
  · simp [hj]

/-- What R29 says of one setter: its two masked forms, the bit it writes and the bits it keeps. -/
theorem setFlag_masked_and_frame (x : Flag) (f : Byte) :
    setFlag x true f = f ||| ((1 : Byte) <<< x.bit) ∧ setFlag x false f = f &&& ~~~((1 : Byte) <<< x.bit) ∧
    ∀ v, (setFlag x v f).getLsbD x.bit = v ∧ ∀ j, j ≠ x.bit → (setFlag x v f).getLsbD j = f.getLsbD j :=
  ⟨setFlag_true x f, setFlag_false x f, fun v =>
    ⟨by rw [getLsbD_setFlag, if_pos rfl], fun j hj => by rw [getLsbD_setFlag, if_neg hj]⟩⟩

/-- Settles O4: the getters are R28's bits by definition, and the rest is one equation for every bit of f after a setter. -/
theorem flagSetterChangesOneBit : Obligations.FlagSetterChangesOneBit := by
  unfold Obligations.FlagSetterChangesOneBit
  refine ⟨fun f => ⟨rfl, rfl, rfl, rfl⟩, fun p hp f => ?_, fun x y v w f hxy => setFlag_comm hxy v w f⟩
  have bit_eq : p.2 = p.1.bit := by revert p; decide
  rw [bit_eq]
  exact setFlag_masked_and_frame p.1 f

end Sys2Proof.Machine
end

section
/-!
PROOFS. The two kinds of row a cycle table is made of (40_sequencer.md R95): a row that advances the cursor and keeps the latch,
and a row that ends with FETCH. Every table but PREFIX CB's is a list of the first kind followed by one row of the second; the
obligations about the sequencer follow from that shape.
-/

namespace Sys2Proof.Machine

/-! ## Performing a row -/

theorem exec_of_getElem? {i : Instr} {s : State} {row : Row} (h : i.form.table[s.ctx.step]? = some row) :
    exec i s = .next (row s) :=
  (exec_eq_runRow i s).trans (runRow_of_getElem? h)

theorem exec_of_table_singleton {i : Instr} {row : Row} (htable : i.form.table = [row]) {s : State} (hstep : s.ctx.step = 0) :
    exec i s = .next (row s) :=
  exec_of_getElem? (by rw [htable, hstep]; rfl)

/-- A step index inside the table selects a row (40_sequencer.md R92, R96). -/
theorem exists_row_of_lt_cycles {i : Instr} {k : Nat} (h : k < i.cycles) : ∃ row, i.form.table[k]? = some row :=
  ⟨_, List.getElem?_eq_getElem (h.trans_eq (table_length i.form).symm)⟩

theorem form_ne_prefixCB {i : Instr} : i ≠ .prefixCB → i.form ≠ .prefixCB := by
  cases i <;> decide

/-! ## The two kinds of row -/

/-- A change of state that leaves the step index, the latched opcode and the prefix bit as they are. -/
@[simp] abbrev KeepsCursor (change : State → State) : Prop :=
  ∀ s : State, (change s).ctx.step = s.ctx.step ∧ (change s).ctx.opcode = s.ctx.opcode ∧
    (change s).ctx.prefixed = s.ctx.prefixed

/-- A row that moves the cursor to the next row of the same instruction (10_state.md R34). -/
def Row.AdvancesCursor (row : Row) : Prop :=
  ∀ s : State, (row s).ctx.step = s.ctx.step + 1 ∧ (row s).ctx.opcode = s.ctx.opcode ∧ (row s).ctx.prefixed = s.ctx.prefixed

/-- A row whose last micro-operation is FETCH and whose other effects leave the bus and pc alone. -/
def Row.EndsWithFetch (row : Row) : Prop :=
  ∀ s : State, ∃ u : State, row s = u.fetch ∧ u.bus = s.bus ∧ u.regs.pc = s.regs.pc

/-- `advance` after a change that keeps the cursor and the latch is a row of the first kind. -/
@[simp] theorem advancesCursor_advance {change : State → State}
    (keepsCursor : KeepsCursor change) : Row.AdvancesCursor fun s => (change s).advance := by
  intro s
  simpa using keepsCursor s

/-- FETCH after a change that keeps the bus and pc is a row of the second kind. -/
@[simp] theorem endsWithFetch_fetch {change : State → State}
    (keepsBusAndPc : ∀ s, (change s).bus = s.bus ∧ (change s).regs.pc = s.regs.pc) :
    Row.EndsWithFetch fun s => (change s).fetch :=
  fun s => ⟨change s, rfl, keepsBusAndPc s⟩

/-! ## The resolver's rows advance the cursor (40_sequencer.md R101, R102) -/

theorem readImm8_advancesCursor : Row.AdvancesCursor readImm8 := advancesCursor_advance (by simp)
theorem readImmLo_advancesCursor : Row.AdvancesCursor readImmLo := advancesCursor_advance (by simp)
theorem readImmHi_advancesCursor : Row.AdvancesCursor readImmHi := advancesCursor_advance (by simp)
theorem readImmHigh_advancesCursor : Row.AdvancesCursor readImmHigh := advancesCursor_advance (by simp)
theorem pushByte_advancesCursor (v : State → Byte) : Row.AdvancesCursor (pushByte v) := advancesCursor_advance (by simp)

theorem readImm16_advancesCursor : ∀ row ∈ readImm16, Row.AdvancesCursor row := by
  simp [readImm16, readImmLo_advancesCursor, readImmHi_advancesCursor]

theorem Source8.readRows_advancesCursor (src : Source8) : ∀ row ∈ src.readRows, Row.AdvancesCursor row := by
  cases src with
  | reg | ind | indHLI | indHLD | highC => simp [Source8.readRows]
  | imm8 => simp [Source8.readRows, readImm8_advancesCursor]
  | highImm => simp [Source8.readRows, readImmHigh_advancesCursor]
  | dir8 => exact List.forall_mem_append.2 ⟨readImm16_advancesCursor, by simp⟩

theorem Dest8.writeRows_advancesCursor (v : State → Byte) (dst : Dest8) :
    ∀ row ∈ dst.writeRows v, Row.AdvancesCursor row := by
  cases dst with
  | reg | ind | indHLI | indHLD | highC => simp [Dest8.writeRows]
  | highImm => simp [Dest8.writeRows, readImmHigh_advancesCursor]
  | dir8 => exact List.forall_mem_append.2 ⟨readImm16_advancesCursor, by simp⟩

theorem writeDir16_advancesCursor (v : State → Word) : ∀ row ∈ writeDir16 v, Row.AdvancesCursor row := by
  simp [writeDir16]

theorem pushRows_advancesCursor (v : State → Word) : ∀ row ∈ pushRows v, Row.AdvancesCursor row := by
  simp [pushRows, pushByte_advancesCursor]

theorem Dest8.commit_keepsBusAndPc (dst : Dest8) (v : Byte) (s : State) :
    (dst.commit v s).bus = s.bus ∧ (dst.commit v s).regs.pc = s.regs.pc := by
  cases dst <;> simp [Dest8.commit]

/-! ## Tables that end with FETCH and have it nowhere else -/

/-- Each row but the last advances the cursor, and the last one ends with FETCH (40_sequencer.md R95). -/
structure FetchesOnlyLast (table : List Row) : Prop where
  inner : ∀ k row, table[k]? = some row → k + 1 < table.length → Row.AdvancesCursor row
  last : ∀ k row, table[k]? = some row → k + 1 = table.length → Row.EndsWithFetch row

theorem fetchesOnlyLast_append {rows : List Row} {lastRow : Row} (hrows : ∀ row ∈ rows, Row.AdvancesCursor row)
    (hlast : Row.EndsWithFetch lastRow) : FetchesOnlyLast (rows ++ [lastRow]) where
  inner k row hk hlt := by
    have k_lt : k < rows.length := by simpa using hlt
    rw [List.getElem?_append_left k_lt] at hk
    exact hrows row (List.mem_of_getElem? hk)
  last k row hk heq := by
    obtain rfl : k = rows.length := by simpa using heq
    rw [List.getElem?_concat_length] at hk
    exact Option.some.inj hk ▸ hlast

theorem fetchesOnlyLast_singleton {row : Row} (h : Row.EndsWithFetch row) : FetchesOnlyLast [row] :=
  fetchesOnlyLast_append (rows := []) (by simp) h

theorem load8Table_fetchesOnlyLast (dst : Dest8) (src : Source8) : FetchesOnlyLast (load8Table dst src) :=
  fetchesOnlyLast_append
    (List.forall_mem_append.2 ⟨src.readRows_advancesCursor, dst.writeRows_advancesCursor src.value⟩)
    (endsWithFetch_fetch fun s => dst.commit_keepsBusAndPc (src.value s) s)

theorem ldPairImmTable_fetchesOnlyLast (rr : PairRR) : FetchesOnlyLast (ldPairImmTable rr) :=
  fetchesOnlyLast_append readImm16_advancesCursor (endsWithFetch_fetch (by simp))

theorem ldSPHLTable_fetchesOnlyLast : FetchesOnlyLast ldSPHLTable :=
  fetchesOnlyLast_append (rows := [_]) (by simp) (endsWithFetch_fetch (by simp))

theorem ldDirSPTable_fetchesOnlyLast : FetchesOnlyLast ldDirSPTable :=
  fetchesOnlyLast_append (List.forall_mem_append.2 ⟨readImm16_advancesCursor, writeDir16_advancesCursor _⟩)
    (endsWithFetch_fetch (by simp))

theorem cpTable_fetchesOnlyLast (src : Source8) : FetchesOnlyLast (cpTable src) :=
  fetchesOnlyLast_append src.readRows_advancesCursor (endsWithFetch_fetch (by simp))

theorem bitTable_fetchesOnlyLast (b : Fin 8) (src : Source8) : FetchesOnlyLast (bitTable b src) :=
  fetchesOnlyLast_append src.readRows_advancesCursor (endsWithFetch_fetch (by simp))

/-- The change of a read-modify-write table works on scratch8 and f, so it keeps the cursor. -/
theorem rmwHLTable_fetchesOnlyLast {change : State → State}
    (keepsCursor : KeepsCursor change) : FetchesOnlyLast (rmwHLTable change) :=
  fetchesOnlyLast_append (rows := [_, _]) (by simp [keepsCursor]) (endsWithFetch_fetch (by simp))

theorem pushTable_fetchesOnlyLast (qq : PairQQ) : FetchesOnlyLast (pushTable qq) :=
  fetchesOnlyLast_append (List.forall_mem_append.2 ⟨by simp, pushRows_advancesCursor _⟩) (endsWithFetch_fetch (by simp))

theorem table_fetchesOnlyLast {f : Form} (hf : f ≠ .prefixCB) : FetchesOnlyLast f.table := by
  cases f with
  | nop => exact fetchesOnlyLast_singleton (endsWithFetch_fetch (by simp))
  | prefixCB => exact absurd rfl hf
  | ldRegReg | ldRegImm | ldRegIndHL | ldIndHLReg | ldIndHLImm | ldAIndBC | ldAIndDE | ldIndBCA | ldIndDEA | ldAIndHLI
  | ldAIndHLD | ldIndHLIA | ldIndHLDA | ldADir | ldDirA | ldhAImm | ldhImmA | ldAHighC | ldHighCA =>
    exact load8Table_fetchesOnlyLast _ _
  | ldPairImm rr => exact ldPairImmTable_fetchesOnlyLast rr
  | ldSPHL => exact ldSPHLTable_fetchesOnlyLast
  | ldDirSP => exact ldDirSPTable_fetchesOnlyLast
  | cpReg | cpIndHL | cpImm => exact cpTable_fetchesOnlyLast _
  | incReg | decReg | rlReg => exact fetchesOnlyLast_singleton (endsWithFetch_fetch (by simp))
  | incIndHL | decIndHL | rlIndHL => exact rmwHLTable_fetchesOnlyLast (by simp)
  | incPair | decPair => exact fetchesOnlyLast_append (rows := [_]) (by simp) (endsWithFetch_fetch (by simp))
  | bitReg | bitIndHL => exact bitTable_fetchesOnlyLast _ _
  | push qq => exact pushTable_fetchesOnlyLast qq

/-! ## What `exec` does before the last row and at it -/

theorem exec_before_last_row {i : Instr} {s : State} (hi : i ≠ .prefixCB) (hk : s.ctx.step + 1 < i.cycles) :
    ∃ t, exec i s = .next t ∧ t.ctx.step = s.ctx.step + 1 ∧ t.ctx.opcode = s.ctx.opcode ∧
      t.ctx.prefixed = s.ctx.prefixed := by
  obtain ⟨row, hrow⟩ := exists_row_of_lt_cycles (Nat.lt_of_succ_lt hk)
  have advances : Row.AdvancesCursor row :=
    (table_fetchesOnlyLast (form_ne_prefixCB hi)).inner _ row hrow (hk.trans_eq (table_length i.form).symm)
  exact ⟨row s, exec_of_getElem? hrow, advances s⟩

theorem exec_last_row {i : Instr} {s : State} (hi : i ≠ .prefixCB) (hk : s.ctx.step + 1 = i.cycles) :
    ∃ u : State, exec i s = .next u.fetch ∧ u.bus = s.bus ∧ u.regs.pc = s.regs.pc := by
  obtain ⟨row, hrow⟩ := exists_row_of_lt_cycles (i := i) (Nat.lt_of_succ_le hk.le)
  have fetches : Row.EndsWithFetch row :=
    (table_fetchesOnlyLast (form_ne_prefixCB hi)).last _ row hrow (hk.trans (table_length i.form).symm)
  obtain ⟨u, row_eq, keepsBusAndPc⟩ := fetches s
  exact ⟨u, row_eq ▸ exec_of_getElem? hrow, keepsBusAndPc⟩

/-! ## The two instructions of one sequencing row (40_sequencer.md R110, R112) -/

theorem exec_nop {s : State} (hstep : s.ctx.step = 0) : exec .nop s = .next s.fetch :=
  exec_of_table_singleton rfl hstep

theorem exec_prefixCB {s : State} (hstep : s.ctx.step = 0) : exec .prefixCB s = .next s.latchCb :=
  exec_of_table_singleton rfl hstep

/-- FETCH clears `prefixed` and PREFIX CB's read sets it. -/
theorem latchCb_ne_fetch (s u : State) : s.latchCb ≠ u.fetch := by
  intro h
  have prefixed_eq : s.latchCb.ctx.prefixed = u.fetch.ctx.prefixed := by rw [h]
  simp at prefixed_eq

/-- Settles O34: the rows of every table but PREFIX CB's by the table's shape, and PREFIX CB's row by the prefix bit it sets. -/
theorem everyRowCompletesAndOnlyTheLastFetches : Obligations.EveryRowCompletesAndOnlyTheLastFetches := by
  unfold Obligations.EveryRowCompletesAndOnlyTheLastFetches
  exact ⟨fun _ _ hi => ⟨exec_before_last_row hi, exec_last_row hi⟩,
    fun s hstep => ⟨s.latchCb, exec_prefixCB hstep, rfl, latchCb_ne_fetch s⟩⟩

/-- Settles O1: FETCH field by field, and the wrap of pc at the top of the address space. -/
theorem fetchReadsOpcodeAtPcAndResetsCursor : Obligations.FetchReadsOpcodeAtPcAndResetsCursor := by
  unfold Obligations.FetchReadsOpcodeAtPcAndResetsCursor
  intro s
  have wraps : s.regs.pc = 0xFFFF → s.fetch.regs.pc = 0x0000 := fun hpc => by rw [State.fetch_regs, hpc]; rfl
  exact ⟨s.fetch_ctx, s.fetch_regs, wraps, s.fetch_fault, s.fetch_bus⟩

/-- Settles O8: NOP's one row is FETCH, written out here field by field. -/
theorem nopOnlyFetches : Obligations.NopOnlyFetches := by
  unfold Obligations.NopOnlyFetches
  exact ⟨Laws.DispatchesTo.nop, fun _ hstep => exec_nop hstep⟩

/-- Settles O9: PREFIX CB's one row is the latching read, written out here field by field; the CB map has no row 0xCB. -/
theorem prefixCbLatchesTheCbOpcode : Obligations.PrefixCbLatchesTheCbOpcode := by
  unfold Obligations.PrefixCbLatchesTheCbOpcode
  have cb_unmapped : decode 0xCB true = none := by decide
  exact ⟨Laws.DispatchesTo.prefixCB, cb_unmapped, fun _ hstep => exec_prefixCB hstep⟩

end Sys2Proof.Machine
end

section
/-!
PROOFS. The 8-bit loads (41_load8.md R121 to R139). The dispatcher selects from each form's opcode an instruction of that form,
and that instruction performs the rows of the form's cycle table; `Sys2Proof/Laws/Tables.lean` lists those rows form by form.
-/

namespace Sys2Proof.Machine

/-! ## From an opcode to the rows of its cycle table -/

/-- The dispatcher undoes the bit patterns of 30_encoding.md R77, whatever the operand fields. -/
theorem decode_opcode_form (f : Form) : (decode f.opcode f.prefixed).map Instr.form = some f := by
  cases f with
  | ldRegReg dst src => cases dst <;> cases src <;> rfl
  | ldRegImm r | ldRegIndHL r | ldIndHLReg r | cpReg r | incReg r | decReg r | rlReg r => cases r <;> rfl
  | ldPairImm rr | incPair rr | decPair rr => cases rr <;> rfl
  | push qq => cases qq <;> rfl
  | bitReg b src => cases src <;> (revert b; decide)
  | bitIndHL b => revert b; decide
  | nop | prefixCB | ldIndHLImm | ldAIndBC | ldAIndDE | ldIndBCA | ldIndDEA | ldAIndHLI | ldAIndHLD | ldIndHLIA | ldIndHLDA
  | ldADir | ldDirA | ldhAImm | ldhImmA | ldAHighC | ldHighCA | ldSPHL | ldDirSP | cpIndHL | cpImm | incIndHL | decIndHL
  | rlIndHL => rfl

theorem exists_instr_of_table {f : Form} {rows : List Row} (hrows : f.table = rows) :
    ∃ i, decode f.opcode f.prefixed = some i ∧ i.form.table = rows := by
  obtain ⟨i, hdecode, hform⟩ := Option.map_eq_some_iff.1 (decode_opcode_form f)
  exact ⟨i, hdecode, hform ▸ hrows⟩

/-- Cycle `k` performs row `k` of a table written out as a list of rows. -/
theorem exec_of_table {i : Instr} {rows : List Row} (hrows : i.form.table = rows) (s : State) (k : Nat)
    (hk : k < rows.length := by simp) (hstep : s.ctx.step = k) : exec i s = .next (rows[k] s) :=
  exec_of_getElem? (by rw [hrows, hstep, List.getElem?_eq_getElem hk])

/-- Most of the 8-bit loads take two cycles: an access, then the row that fetches. -/
theorem exists_instr_of_table_pair {f : Form} {row0 row1 : Row} (hrows : f.table = [row0, row1]) :
    ∃ i, decode f.opcode f.prefixed = some i ∧ ∀ s : State,
      (s.ctx.step = 0 → exec i s = .next (row0 s)) ∧ (s.ctx.step = 1 → exec i s = .next (row1 s)) := by
  obtain ⟨i, hdecode, htable⟩ := exists_instr_of_table hrows
  exact ⟨i, hdecode, fun s => ⟨exec_of_table htable s 0, exec_of_table htable s 1⟩⟩

/-! ## In the obligations' terms: hl - 1 as a sum, the high page as a number, a list of two -/

theorem load8Table_reg_indHLD_eq_add (dst : Reg8) :
    load8Table (.reg dst) .indHLD =
      [fun t => ((t.loadScratch8 t.hl).set16 .hl (t.hl + -1)).advance, fun t => (t.set8 dst t.ctx.scratch8).fetch] := by
  simp only [load8Table_reg_indHLD, BitVec.sub_eq_add_neg]

theorem load8Table_indHLD_reg_eq_add (r : Reg8) :
    load8Table .indHLD (.reg r) =
      [fun t => ((t.busWrite t.hl (t.get8 r)).set16 .hl (t.hl + -1)).advance, State.fetch] := by
  simp only [load8Table_indHLD_reg, BitVec.sub_eq_add_neg]

/-- The high page is the page whose high byte is 0xFF (30_encoding.md R75). -/
theorem highPage_eq_pairOf (x : Byte) : highPage x = pairOf 0xFF x := rfl

theorem highPage_toNat (x : Byte) : (highPage x).toNat = 0xFF00 + x.toNat := by
  rw [highPage_eq_pairOf, pairOf_toNat]
  rfl

/-- The obligations below speak of two instructions or two opcodes as the members of a two-element list. -/
theorem forall_mem_pair {α : Type} {p : α → Prop} {x y : α} : (∀ z ∈ [x, y], p z) ↔ p x ∧ p y := by
  rw [List.forall_mem_cons, List.forall_mem_singleton]

/-! ## The obligations -/

/-- Settles O10: the table of LD r,r' has one row, the copy that fetches. -/
theorem loadRegisterFromRegister : Obligations.LoadRegisterFromRegister := by
  unfold Obligations.LoadRegisterFromRegister
  intro dst src
  obtain ⟨i, hdecode, htable⟩ := exists_instr_of_table (f := .ldRegReg dst src) (load8Table_reg_reg dst src)
  exact ⟨i, hdecode, fun _ hstep => exec_of_table_singleton htable hstep⟩

/-- Settles O11: the immediate row, then the row that writes the register. -/
theorem loadRegisterFromImmediate : Obligations.LoadRegisterFromImmediate := by
  unfold Obligations.LoadRegisterFromImmediate
  exact fun dst => exists_instr_of_table_pair (f := .ldRegImm dst) (load8Table_reg_imm8 dst)

/-- Settles O12: the read at hl, then the row that writes the register. -/
theorem loadRegisterFromMemoryAtHl : Obligations.LoadRegisterFromMemoryAtHl := by
  unfold Obligations.LoadRegisterFromMemoryAtHl
  exact fun dst => exists_instr_of_table_pair (f := .ldRegIndHL dst) (load8Table_reg_ind dst .hl)

/-- Settles O13: LD (HL),r has two rows, and LD (HL),n has the immediate row before them. -/
theorem storeToMemoryAtHl : Obligations.StoreToMemoryAtHl := by
  unfold Obligations.StoreToMemoryAtHl
  refine ⟨fun src => ?register, ?immediate⟩
  case register => exact exists_instr_of_table_pair (f := .ldIndHLReg src) (load8Table_ind_reg .hl src)
  case immediate =>
    obtain ⟨i, hdecode, htable⟩ := exists_instr_of_table (f := .ldIndHLImm) (load8Table_ind_imm8 .hl)
    exact ⟨i, hdecode, fun s => ⟨exec_of_table htable s 0, exec_of_table htable s 1, exec_of_table htable s 2⟩⟩

/-- Settles O14: four tables of two rows, each with the pair as the address in c0. -/
theorem loadStoreAThroughBcOrDe : Obligations.LoadStoreAThroughBcOrDe := by
  unfold Obligations.LoadStoreAThroughBcOrDe
  refine ⟨forall_mem_pair.2 ⟨?loadBC, ?loadDE⟩, forall_mem_pair.2 ⟨?storeBC, ?storeDE⟩⟩
  case loadBC => exact exists_instr_of_table_pair (f := .ldAIndBC) (load8Table_reg_ind .a .bc)
  case loadDE => exact exists_instr_of_table_pair (f := .ldAIndDE) (load8Table_reg_ind .a .de)
  case storeBC => exact exists_instr_of_table_pair (f := .ldIndBCA) (load8Table_ind_reg .bc .a)
  case storeDE => exact exists_instr_of_table_pair (f := .ldIndDEA) (load8Table_ind_reg .de .a)

/-- Settles O15: four tables of two rows; the two that move hl down subtract 1, which is adding -1. -/
theorem loadStoreAThroughHlWithUpdate : Obligations.LoadStoreAThroughHlWithUpdate := by
  unfold Obligations.LoadStoreAThroughHlWithUpdate
  refine ⟨forall_mem_pair.2 ⟨?loadUp, ?loadDown⟩, forall_mem_pair.2 ⟨?storeUp, ?storeDown⟩⟩
  case loadUp => exact exists_instr_of_table_pair (f := .ldAIndHLI) (load8Table_reg_indHLI .a)
  case loadDown => exact exists_instr_of_table_pair (f := .ldAIndHLD) (load8Table_reg_indHLD_eq_add .a)
  case storeUp => exact exists_instr_of_table_pair (f := .ldIndHLIA) (load8Table_indHLI_reg .a)
  case storeDown => exact exists_instr_of_table_pair (f := .ldIndHLDA) (load8Table_indHLD_reg_eq_add .a)

/-- Settles O16: the load and the store share the two immediate rows and differ in the access and in what the last row writes. -/
theorem loadStoreAAtAbsoluteAddress : Obligations.LoadStoreAAtAbsoluteAddress := by
  unfold Obligations.LoadStoreAAtAbsoluteAddress
  obtain ⟨ld, decode_ld, ldRows⟩ := exists_instr_of_table (f := .ldADir) (load8Table_reg_dir8 .a)
  obtain ⟨st, decode_st, stRows⟩ := exists_instr_of_table (f := .ldDirA) (load8Table_dir8_reg .a)
  refine ⟨ld, st, decode_ld, decode_st, fun s => ⟨forall_mem_pair.2 ?address, ?accessAndFetch⟩⟩
  case address =>
    exact ⟨⟨exec_of_table ldRows s 0, exec_of_table ldRows s 1⟩, exec_of_table stRows s 0, exec_of_table stRows s 1⟩
  case accessAndFetch =>
    exact ⟨exec_of_table ldRows s 2, exec_of_table ldRows s 3, exec_of_table stRows s 2, exec_of_table stRows s 3⟩

/-- Settles O17: the high-page address as a number, the two forms that read its low byte at pc, and the two that take it from c. -/
theorem loadStoreAInHighPage : Obligations.LoadStoreAInHighPage := by
  unfold Obligations.LoadStoreAInHighPage
  refine ⟨highPage_toNat, ?immediate, ?throughC⟩
  case immediate =>
    obtain ⟨ld, decode_ld, ldRows⟩ := exists_instr_of_table (f := .ldhAImm) (load8Table_reg_highImm .a)
    obtain ⟨st, decode_st, stRows⟩ := exists_instr_of_table (f := .ldhImmA) (load8Table_highImm_reg .a)
    refine ⟨ld, st, decode_ld, decode_st, fun s => ⟨forall_mem_pair.2 ?address, ?accessAndFetch⟩⟩
    case address => exact ⟨exec_of_table ldRows s 0, exec_of_table stRows s 0⟩
    case accessAndFetch =>
      exact ⟨exec_of_table ldRows s 1, exec_of_table ldRows s 2, exec_of_table stRows s 1, exec_of_table stRows s 2⟩
  case throughC =>
    obtain ⟨ld, decode_ld, ldRows⟩ := exists_instr_of_table (f := .ldAHighC) (load8Table_reg_highC .a)
    obtain ⟨st, decode_st, stRows⟩ := exists_instr_of_table (f := .ldHighCA) (load8Table_highC_reg .a)
    exact ⟨ld, st, decode_ld, decode_st, fun s =>
      ⟨exec_of_table ldRows s 0, exec_of_table ldRows s 1, exec_of_table stRows s 0, exec_of_table stRows s 1⟩⟩

end Sys2Proof.Machine
end

section
/-!
PROOFS. The 16-bit loads (42_load16.md R150 to R152). Each is the rows of its cycle table, found from its opcode as for the 8-bit
loads; LD rr,nn and LD (nn),SP begin with the same two immediate rows, low byte first (20_memory.md R55).
-/

namespace Sys2Proof.Machine

/-- Settles O18: the two immediate rows build scratch16, and the third row writes it to the pair as a whole and fetches. -/
theorem loadPairFromImmediate : Obligations.LoadPairFromImmediate := by
  unfold Obligations.LoadPairFromImmediate
  intro rr
  obtain ⟨i, hdecode, htable⟩ := exists_instr_of_table (f := .ldPairImm rr) (ldPairImmTable_rows rr)
  exact ⟨i, hdecode, fun s => ⟨exec_of_table htable s 0, exec_of_table htable s 1, exec_of_table htable s 2⟩⟩

/-- Settles O19: LD SP,HL has two rows, an internal copy and FETCH; LD (nn),SP has five, the two stores between the immediate rows
and FETCH. -/
theorem loadSpFromHlAndStoreSp : Obligations.LoadSpFromHlAndStoreSp := by
  unfold Obligations.LoadSpFromHlAndStoreSp
  refine ⟨?copy, ?store⟩
  case copy => exact exists_instr_of_table_pair (f := .ldSPHL) rfl
  case store =>
    obtain ⟨i, hdecode, htable⟩ := exists_instr_of_table (f := .ldDirSP) ldDirSPTable_rows
    exact ⟨i, hdecode, fun s => ⟨exec_of_table htable s 0, exec_of_table htable s 1, exec_of_table htable s 2,
      exec_of_table htable s 3, exec_of_table htable s 4⟩⟩

end Sys2Proof.Machine
end

section
/-!
PROOFS. Compare (43_compare.md R160 to R163): each flag of `cp_flags` as a condition on the two bytes, and the rows of the three
forms, whose last row is that compare.
-/

namespace Sys2Proof.Machine

/-! ## The flags of a subtraction -/

/-- Any flag after any setter (10_state.md R29). -/
theorem getFlag_setFlag (x y : Flag) (v : Bool) (f : Byte) :
    getFlag y (setFlag x v f) = if y = x then v else getFlag y f := by
  split
  · subst y
    exact getFlag_setFlag_same x v f
  · exact getFlag_setFlag_other x y v f ‹y ≠ x›

/-- Masking with 0x0F is the remainder modulo 16. -/
theorem lowNibble_toNat (v : Byte) : (v &&& 0x0F).toNat = v.toNat % 16 := by
  rw [BitVec.toNat_and]
  exact Nat.and_two_pow_sub_one_eq_mod v.toNat 4

theorem getFlag_z_cpFlags (av s f : Byte) : getFlag .z (cpFlags av s f) = true ↔ av = s := by
  have z_eq : getFlag .z (cpFlags av s f) = (av - s == 0) := by simp [cpFlags, getFlag_setFlag]
  rw [z_eq, beq_iff_eq]
  exact sub_eq_zero

theorem getFlag_n_cpFlags (av s f : Byte) : getFlag .n (cpFlags av s f) = true := by
  simp [cpFlags, getFlag_setFlag]

/-- H is the borrow of the low nibbles. -/
theorem getFlag_h_cpFlags (av s f : Byte) :
    getFlag .h (cpFlags av s f) = true ↔ av.toNat % 16 < s.toNat % 16 := by
  have h_eq : getFlag .h (cpFlags av s f) = decide ((av &&& 0x0F).toNat < (s &&& 0x0F).toNat) := by
    simp [cpFlags, getFlag_setFlag]
  rw [h_eq, decide_eq_true_iff, lowNibble_toNat, lowNibble_toNat]

/-- C is the borrow of the whole bytes. -/
theorem getFlag_c_cpFlags (av s f : Byte) : getFlag .c (cpFlags av s f) = true ↔ av.toNat < s.toNat := by
  rw [cpFlags, getFlag_setFlag_same, decide_eq_true_iff]

/-! ## The obligations -/

/-- Settles O5: a compare writes f alone, with `cp_flags`, and each flag of that is its condition on the two bytes. -/
theorem compareSetsFlagsOfSubtraction : Obligations.CompareSetsFlagsOfSubtraction := by
  unfold Obligations.CompareSetsFlagsOfSubtraction
  intro s v
  have f_eq : (s.compareA v).regs.f = cpFlags s.regs.a v s.regs.f := by rw [State.compareA_regs]
  rw [f_eq]
  exact ⟨rfl, rfl, getFlag_z_cpFlags _ _ _, getFlag_n_cpFlags _ _ _, getFlag_h_cpFlags _ _ _, getFlag_c_cpFlags _ _ _,
    lowNibble_cpFlags _ _ _⟩

/-- Settles O20: CP r has the one row that compares and fetches; CP (HL) and CP n have the read into scratch8 before it. -/
theorem compareWithEachSource : Obligations.CompareWithEachSource := by
  unfold Obligations.CompareWithEachSource
  refine ⟨fun src => ?register, ?memory, ?immediate⟩
  case register =>
    obtain ⟨i, hdecode, htable⟩ := exists_instr_of_table (f := .cpReg src) (cpTable_reg src)
    exact ⟨i, hdecode, fun _ hstep => exec_of_table_singleton htable hstep⟩
  case memory => exact exists_instr_of_table_pair (f := .cpIndHL) (cpTable_ind .hl)
  case immediate => exact exists_instr_of_table_pair (f := .cpImm) cpTable_imm8

end Sys2Proof.Machine
end

section
/-!
PROOFS. Increment and decrement (44_incdec.md R168 to R177): the results as numbers, each flag of `inc8` and `dec8` as a condition
on the byte, and the rows of the four forms.
-/

namespace Sys2Proof.Machine

/-! ## Results -/

theorem inc8_toNat (v : Byte) : (inc8 v).toNat = (v.toNat + 1) % 256 := BitVec.toNat_add v 1

/-- Subtracting 1 modulo 256 is adding 255. -/
theorem dec8_toNat (v : Byte) : (dec8 v).toNat = (v.toNat + 255) % 256 := by
  rw [dec8, BitVec.sub_eq_add_neg, BitVec.toNat_add]
  rfl

theorem inc8_eq_zero_iff (v : Byte) : inc8 v = 0 ↔ (v.toNat + 1) % 256 = 0 := by
  rw [← inc8_toNat]
  exact BitVec.toNat_inj.symm

theorem dec8_eq_zero_iff (v : Byte) : dec8 v = 0 ↔ v.toNat = 1 :=
  sub_eq_zero.trans BitVec.toNat_inj.symm

/-! ## Flags -/

/-- The flags of an operation that writes Z, N and H and keeps C (R168, R169). -/
theorem getFlag_setFlag_znh (z n h : Bool) (f : Byte) :
    getFlag .z (setFlag .h h (setFlag .n n (setFlag .z z f))) = z ∧
    getFlag .n (setFlag .h h (setFlag .n n (setFlag .z z f))) = n ∧
    getFlag .h (setFlag .h h (setFlag .n n (setFlag .z z f))) = h ∧
    getFlag .c (setFlag .h h (setFlag .n n (setFlag .z z f))) = getFlag .c f := by
  simp [getFlag_setFlag]

theorem lowNibble_eq_iff (v k : Byte) : v &&& 0x0F = k ↔ v.toNat % 16 = k.toNat := by
  rw [← BitVec.toNat_inj, lowNibble_toNat]

/-- H is the carry out of the low nibble. -/
theorem getFlag_inc8Flags (v f : Byte) :
    (getFlag .z (inc8Flags v f) = true ↔ (v.toNat + 1) % 256 = 0) ∧
    getFlag .n (inc8Flags v f) = false ∧
    (getFlag .h (inc8Flags v f) = true ↔ v.toNat % 16 = 15) ∧
    getFlag .c (inc8Flags v f) = getFlag .c f := by
  obtain ⟨z_eq, n_eq, h_eq, c_eq⟩ := getFlag_setFlag_znh (inc8 v == 0) false (v &&& 0x0F == 0x0F) f
  rw [inc8Flags, z_eq, h_eq, beq_iff_eq, beq_iff_eq]
  exact ⟨inc8_eq_zero_iff v, n_eq, lowNibble_eq_iff v 0x0F, c_eq⟩

/-- H is the borrow out of the low nibble. -/
theorem getFlag_dec8Flags (v f : Byte) :
    (getFlag .z (dec8Flags v f) = true ↔ v.toNat = 1) ∧
    getFlag .n (dec8Flags v f) = true ∧
    (getFlag .h (dec8Flags v f) = true ↔ v.toNat % 16 = 0) ∧
    getFlag .c (dec8Flags v f) = getFlag .c f := by
  obtain ⟨z_eq, n_eq, h_eq, c_eq⟩ := getFlag_setFlag_znh (dec8 v == 0) true (v &&& 0x0F == 0x00) f
  rw [dec8Flags, z_eq, h_eq, beq_iff_eq, beq_iff_eq]
  exact ⟨dec8_eq_zero_iff v, n_eq, lowNibble_eq_iff v 0x00, c_eq⟩

/-! ## Rows -/

/-- The forms on one register take one cycle, the row that writes and fetches. -/
theorem exists_instr_of_table_singleton {f : Form} {row : Row} (hrows : f.table = [row]) :
    ∃ i, decode f.opcode f.prefixed = some i ∧ ∀ s : State, s.ctx.step = 0 → exec i s = .next (row s) := by
  obtain ⟨i, hdecode, htable⟩ := exists_instr_of_table hrows
  exact ⟨i, hdecode, fun _ hstep => exec_of_table_singleton htable hstep⟩

/-- The three rows that INC (HL), DEC (HL) and RL (HL) share. -/
theorem rmwHLTable_rows (change : State → State) :
    rmwHLTable change =
      [fun t => (t.loadScratch8 t.hl).advance, fun t => ((change t).busWrite t.hl (change t).ctx.scratch8).advance,
       State.fetch] := rfl

/-! ## The obligations -/

/-- Settles O6: results and flags by the arithmetic of one byte; the low nibble of f is under none of the flag bits. -/
theorem incDecResultAndFlags : Obligations.IncDecResultAndFlags := by
  unfold Obligations.IncDecResultAndFlags
  intro v f
  obtain ⟨inc_z, inc_n, inc_h, inc_c⟩ := getFlag_inc8Flags v f
  obtain ⟨dec_z, dec_n, dec_h, dec_c⟩ := getFlag_dec8Flags v f
  exact ⟨inc8_toNat v, inc_z, inc_n, inc_h, inc_c, lowNibble_inc8Flags v f,
    dec8_toNat v, dec_z, dec_n, dec_h, dec_c, lowNibble_dec8Flags v f⟩

/-- Settles O21: INC r and DEC r have the one row that writes f and the register and fetches. -/
theorem incrementDecrementRegister : Obligations.IncrementDecrementRegister := by
  unfold Obligations.IncrementDecrementRegister
  exact fun dst => ⟨exists_instr_of_table_singleton (f := .incReg dst) rfl,
    exists_instr_of_table_singleton (f := .decReg dst) rfl⟩

/-- Settles O23: INC rr and DEC rr have two rows, the internal one that writes the pair and FETCH. -/
theorem incrementDecrementPair : Obligations.IncrementDecrementPair := by
  unfold Obligations.IncrementDecrementPair
  exact fun rr => ⟨exists_instr_of_table_pair (f := .incPair rr) rfl, exists_instr_of_table_pair (f := .decPair rr) rfl⟩

/-- Settles O22: both are the read-modify-write table, with `inc8` or `dec8` as the change of its middle row. -/
theorem incrementDecrementMemoryAtHl : Obligations.IncrementDecrementMemoryAtHl := by
  unfold Obligations.IncrementDecrementMemoryAtHl
  obtain ⟨inc, decode_inc, incRows⟩ := exists_instr_of_table (f := .incIndHL) (rmwHLTable_rows State.incScratch8)
  obtain ⟨dec, decode_dec, decRows⟩ := exists_instr_of_table (f := .decIndHL) (rmwHLTable_rows State.decScratch8)
  refine ⟨inc, dec, decode_inc, decode_dec, fun s => ⟨forall_mem_pair.2 ?readAndFetch, ?modify⟩⟩
  case readAndFetch =>
    exact ⟨⟨exec_of_table incRows s 0, exec_of_table incRows s 2⟩, exec_of_table decRows s 0, exec_of_table decRows s 2⟩
  case modify => exact ⟨exec_of_table incRows s 1, exec_of_table decRows s 1⟩

end Sys2Proof.Machine
end

section
/-!
PROOFS. Rotate and bit test (45_cb_rotate_bit.md R188 to R193): the rotated byte as a number, each flag of `rl8` and `bit_test` as
a condition on the byte, and the rows of the four forms, all in the CB table.
-/

namespace Sys2Proof.Machine

/-! ## The rotated byte -/

/-- `rl8` shifts the old carry in from the right. -/
theorem rl8_eq_shiftConcat (v f : Byte) : rl8 v f = v.shiftConcat (getFlag .c f) := by
  refine BitVec.eq_of_getLsbD_eq fun j hj => ?_
  rw [BitVec.getLsbD_shiftConcat, rl8, BitVec.getLsbD_or, BitVec.getLsbD_shiftLeft]
  cases j with
  | zero => cases getFlag .c f <;> rfl
  | succ j => cases getFlag .c f <;> simp [hj]

theorem rl8_toNat (v f : Byte) : (rl8 v f).toNat = (2 * v.toNat + (getFlag .c f).toNat) % 256 := by
  rw [rl8_eq_shiftConcat, BitVec.toNat_shiftConcat, Nat.shiftLeft_eq, Nat.mul_comm]

/-! ## Flags -/

/-- C is the bit shifted out; N and H are cleared (R188). -/
theorem getFlag_rl8Flags (v f : Byte) :
    (getFlag .c (rl8Flags v f) = true ↔ 128 ≤ v.toNat) ∧
    (getFlag .z (rl8Flags v f) = true ↔ rl8 v f = 0) ∧
    getFlag .n (rl8Flags v f) = false ∧
    getFlag .h (rl8Flags v f) = false := by
  obtain ⟨z_eq, n_eq, h_eq, c_eq⟩ := getFlag_setFlag_znh (rl8 v f == 0) false false (setFlag .c (v.getLsbD 7) f)
  have top_bit : v.getLsbD 7 = decide (128 ≤ v.toNat) := v.msb_eq_decide
  rw [rl8Flags, z_eq, n_eq, h_eq, c_eq, getFlag_setFlag_same, top_bit, decide_eq_true_iff, beq_iff_eq]
  exact ⟨Iff.rfl, Iff.rfl, rfl, rfl⟩

/-- Z is the complement of the tested bit; C is not written (R189). -/
theorem getFlag_bitTestFlags (b : Fin 8) (v f : Byte) :
    (getFlag .z (bitTestFlags b v f) = true ↔ v.toNat.testBit b.val = false) ∧
    getFlag .n (bitTestFlags b v f) = false ∧
    getFlag .h (bitTestFlags b v f) = true ∧
    getFlag .c (bitTestFlags b v f) = getFlag .c f := by
  obtain ⟨z_eq, n_eq, h_eq, c_eq⟩ := getFlag_setFlag_znh (!v.getLsbD b.val) false true f
  rw [bitTestFlags, z_eq, BitVec.testBit_toNat, Bool.not_eq_true']
  exact ⟨Iff.rfl, n_eq, h_eq, c_eq⟩

/-! ## The obligations -/

/-- Settles O7: the byte and the flags of both functions; the low nibble of f is under none of the flag bits. -/
theorem rotateAndBitTestResultAndFlags : Obligations.RotateAndBitTestResultAndFlags := by
  unfold Obligations.RotateAndBitTestResultAndFlags
  intro v f
  obtain ⟨rl_c, rl_z, rl_n, rl_h⟩ := getFlag_rl8Flags v f
  refine ⟨rl8_toNat v f, rl_c, rl_z, rl_n, rl_h, lowNibble_rl8Flags v f, fun b => ?bitTest⟩
  case bitTest =>
    obtain ⟨bit_z, bit_n, bit_h, bit_c⟩ := getFlag_bitTestFlags b v f
    exact ⟨bit_z, bit_n, bit_h, bit_c, lowNibble_bitTestFlags b v f⟩

/-- Settles O24: RL r has the one row that writes f and the register and fetches; RL (HL) is the read-modify-write table, with `rl8`
as the change of its middle row. -/
theorem rotateLeftThroughCarry : Obligations.RotateLeftThroughCarry := by
  unfold Obligations.RotateLeftThroughCarry
  refine ⟨fun src => ?register, ?memory⟩
  case register => exact exists_instr_of_table_singleton (f := .rlReg src) rfl
  case memory =>
    obtain ⟨i, hdecode, htable⟩ := exists_instr_of_table (f := .rlIndHL) (rmwHLTable_rows State.rlScratch8)
    exact ⟨i, hdecode, fun s => ⟨exec_of_table htable s 0, exec_of_table htable s 1, exec_of_table htable s 2⟩⟩

/-- Settles O25: BIT b,r has the one row that writes f and fetches; BIT b,(HL) has the read into scratch8 before it. -/
theorem testBitOfEachSource : Obligations.TestBitOfEachSource := by
  unfold Obligations.TestBitOfEachSource
  refine fun b => ⟨fun src => ?register, ?memory⟩
  case register => exact exists_instr_of_table_singleton (f := .bitReg b src) (bitTable_reg b src)
  case memory => exact exists_instr_of_table_pair (f := .bitIndHL b) (bitTable_ind b .hl)

end Sys2Proof.Machine
end

section
/-!
PROOFS. The stack push (46_stack.md R210). PUSH qq is the rows of its cycle table, found from its opcode as for the loads.
-/

namespace Sys2Proof.Machine

/-- Settles O26: the pair is captured in scratch16, and the two write rows lower sp and store to the new sp, high byte first. -/
theorem pushPair : Obligations.PushPair := by
  unfold Obligations.PushPair
  intro qq
  obtain ⟨i, hdecode, htable⟩ := exists_instr_of_table (f := .push qq) (pushTable_rows qq)
  exact ⟨i, hdecode, fun s => ⟨exec_of_table htable s 0, exec_of_table htable s 1, exec_of_table htable s 2,
    exec_of_table htable s 3⟩⟩

end Sys2Proof.Machine
end

section
/-!
PROOFS. The fatal fault (60_exceptions.md R220): the cycle that raises it is the rule beside `step_of_latched`, for an opcode with no
handler, and what it changes is read off the laws of `State.raiseFatalFault`.
-/

namespace Sys2Proof.Machine

/-- With no instruction latched and no obstacle, the step takes the fatal fault (40_sequencer.md R92). -/
theorem step_of_unmapped {s : State} (hfault : s.fault = none) (hnibble : flagLowNibbleClear s.regs.f = true)
    (hlatched : s.latched = none) : step s = .next s.raiseFatalFault := by
  simp only [step, advanceOneCycle, hfault, hnibble, hlatched, if_true]

/-- Settles O50: the step takes the fatal fault, which sets the latch and leaves registers, context and bus alone. -/
theorem unmappedOpcodeRaisesFatalFault : Obligations.UnmappedOpcodeRaisesFatalFault := by
  unfold Obligations.UnmappedOpcodeRaisesFatalFault
  intro s hfault hnibble hdecode
  exact ⟨s.raiseFatalFault, _, step_of_unmapped hfault hnibble hdecode, s.raiseFatalFault_fault, rfl, rfl, rfl, rfl,
    s.raiseFatalFault_regs, s.raiseFatalFault_ctx, s.raiseFatalFault_bus⟩

end Sys2Proof.Machine
end

section
/-!
PROOFS. The timing table (70_reset_and_hazards.md R256). Each form's cycle table is set beside its bus pattern, a row against a slot:
the last row reads at pc because it ends with FETCH (PREFIX CB's with the latching read), and what an earlier row does on the bus
is read off the row. The addresses are those `Instr.readAddress` and `Instr.storeAddress` give for the slot.
-/

namespace Sys2Proof

open Machine

/-! ## The address of a slot -/

/-- The address of a form's data write: that of its destination, and for LD (nn),SP nn and then nn + 1 (42_load16.md R152). -/
def Form.dataWriteAddress : Form → State → Option Word
  | .ldDirSP, s => some (if s.ctx.step = 2 then s.ctx.scratch16 else s.ctx.scratch16 + 1)
  | f, s => f.storeDest.bind fun dst => dst.address s

theorem Instr.storeAddress_of_dataWrite {i : Instr} {s : State} (hslot : i.form.busPattern[s.ctx.step]? = some .dataWrite) :
    i.storeAddress s = i.form.dataWriteAddress s := by
  unfold Instr.storeAddress
  rw [hslot]
  cases i.form <;> rfl

theorem Instr.storeAddress_of_stackWrite {i : Instr} {s : State} {qq : PairQQ} (hform : i.form = .push qq)
    (hslot : i.form.busPattern[s.ctx.step]? = some .stackWrite) : i.storeAddress s = some s.pushAddress := by
  rw [hform] at hslot
  simp only [Instr.storeAddress, hform, hslot]

theorem Instr.readAddress_of_dataRead {i : Instr} {s : State} (hslot : i.form.busPattern[s.ctx.step]? = some .dataRead) :
    i.readAddress s = i.form.loadAddress s := by
  simp only [Instr.readAddress, hslot]

theorem Instr.readAddress_of_pcSlot {i : Instr} {s : State} {slot : Slot} (hslot : i.form.busPattern[s.ctx.step]? = some slot)
    (hpc : slot = .fetch ∨ slot = .cbFetch ∨ slot = .imm) : i.readAddress s = some s.regs.pc := by
  obtain rfl | rfl | rfl := hpc <;> simp only [Instr.readAddress, hslot]

/-! ## What a slot says of a row -/

/-- What a slot of a form says of the bus between the state on entry to the row and the state after it (R256). -/
def Slot.Describes (f : Form) (s t : State) : Slot → Prop
  | .fetch | .cbFetch | .imm => t.bus = (s.afterRead s.regs.pc).bus
  | .dataRead => ∃ a, f.loadAddress s = some a ∧ t.bus = (s.afterRead a).bus
  | .dataWrite => ∃ a v, f.dataWriteAddress s = some a ∧ t.bus = (s.busWrite a v).bus
  | .stackWrite => ∃ qq v, f = .push qq ∧ t.bus = (s.busWrite s.pushAddress v).bus
  | .internal => t.bus = s.bus

/-- A row, with its index in the cycle table, does what the slot says whenever it is the row about to run. -/
def Form.RowFollows (f : Form) (indexedRow : Row × Nat) (slot : Slot) : Prop :=
  ∀ s : State, s.ctx.step = indexedRow.2 → slot.Describes f s (indexedRow.1 s)

/-- What a read does to the bus depends on no other part of the state. -/
theorem afterRead_bus_congr {s u : State} (hbus : u.bus = s.bus) (a : Word) : (u.afterRead a).bus = (s.afterRead a).bus := by
  simp only [State.afterRead, State.busAnswer, hbus]

theorem Machine.Row.EndsWithFetch.bus_eq {row : Row} (h : Row.EndsWithFetch row) (s : State) :
    (row s).bus = (s.afterRead s.regs.pc).bus := by
  obtain ⟨u, row_eq, hbus, hpc⟩ := h s
  rw [row_eq, State.fetch_bus, hpc, afterRead_bus_congr hbus]

/-! ## A cycle table beside its pattern -/

/-- The rows of a cycle table from index `k` on follow the slots, one each. -/
def Form.Follows (f : Form) (k : Nat) (rows : List Row) (slots : List Slot) : Prop :=
  List.Forall₂ f.RowFollows (rows.zipIdx k) slots

section
variable {f : Form} {k : Nat} {row : Row} {rows : List Row} {slots : List Slot}

theorem Form.Follows.cons {slot : Slot} (rest : f.Follows (k + 1) rows slots) (h : f.RowFollows (row, k) slot) :
    f.Follows k (row :: rows) (slot :: slots) :=
  List.Forall₂.cons h rest

theorem Form.Follows.internal (rest : f.Follows (k + 1) rows slots)
    (h : f.RowFollows (row, k) .internal := by exact fun _ _ => rfl) : f.Follows k (row :: rows) (.internal :: slots) :=
  rest.cons h

theorem Form.Follows.imm (rest : f.Follows (k + 1) rows slots)
    (h : f.RowFollows (row, k) .imm := by exact fun _ _ => rfl) : f.Follows k (row :: rows) (.imm :: slots) :=
  rest.cons h

theorem Form.Follows.dataRead (rest : f.Follows (k + 1) rows slots)
    (h : f.RowFollows (row, k) .dataRead := by exact fun _ _ => ⟨_, rfl, rfl⟩) :
    f.Follows k (row :: rows) (.dataRead :: slots) :=
  rest.cons h

theorem Form.Follows.dataWrite (rest : f.Follows (k + 1) rows slots)
    (h : f.RowFollows (row, k) .dataWrite := by exact fun _ _ => ⟨_, _, rfl, rfl⟩) :
    f.Follows k (row :: rows) (.dataWrite :: slots) :=
  rest.cons h

theorem Form.Follows.stackWrite (rest : f.Follows (k + 1) rows slots)
    (h : f.RowFollows (row, k) .stackWrite := by exact fun _ _ => ⟨_, _, rfl, rfl⟩) :
    f.Follows k (row :: rows) (.stackWrite :: slots) :=
  rest.cons h

/-- The end of every cycle table but PREFIX CB's: the last row is the one that fetches (40_sequencer.md R95). -/
theorem Form.Follows.fetch (hf : f ≠ .prefixCB := by exact nofun) (hrow : f.table[k]? = some row := by rfl)
    (hlast : k + 1 = f.table.length := by rfl) : f.Follows k [row] [.fetch] :=
  List.Forall₂.cons (fun s _ => ((table_fetchesOnlyLast hf).last k row hrow hlast).bus_eq s) .nil

theorem Form.Follows.length_eq (h : f.Follows k rows slots) : slots.length = rows.length := by
  rw [← List.Forall₂.length_eq h, List.length_zipIdx]

end

/-- The table of R256. What a row does on the bus, and at which address, is in each case the row's definition; only the two writes of
LD (nn),SP need the step index, which tells them apart. -/
theorem table_follows_busPattern (f : Form) : f.Follows 0 f.table f.busPattern := by
  cases f with
  | prefixCB => exact .cons .nil fun _ _ => rfl
  | nop | ldRegReg | cpReg | incReg | decReg | rlReg | bitReg => exact .fetch
  | ldRegImm | cpImm => exact .imm .fetch
  | ldRegIndHL | ldAIndBC | ldAIndDE | ldAIndHLI | ldAIndHLD | ldAHighC | cpIndHL | bitIndHL => exact .dataRead .fetch
  | ldIndHLReg | ldIndBCA | ldIndDEA | ldIndHLIA | ldIndHLDA | ldHighCA => exact .dataWrite .fetch
  | ldSPHL | incPair | decPair => exact .internal .fetch
  | ldIndHLImm | ldhImmA => exact .imm <| .dataWrite .fetch
  | ldhAImm => exact .imm <| .dataRead .fetch
  | ldPairImm => exact .imm <| .imm .fetch
  | incIndHL | decIndHL | rlIndHL => exact .dataRead <| .dataWrite .fetch
  | ldADir => exact .imm <| .imm <| .dataRead .fetch
  | ldDirA => exact .imm <| .imm <| .dataWrite .fetch
  | push => exact .internal <| .stackWrite <| .stackWrite .fetch
  | ldDirSP =>
    refine .imm <| .imm <| .dataWrite (h := ?low) <| .dataWrite (h := ?high) .fetch
    case low => exact fun _ hstep => ⟨_, _, congrArg some (if_pos hstep), rfl⟩
    case high => exact fun _ hstep => ⟨_, _, congrArg some (if_neg (by simp [hstep])), rfl⟩

theorem busPattern_length (f : Form) : f.busPattern.length = f.cycles := by
  rw [(table_follows_busPattern f).length_eq, table_length]

/-- Every cycle of an instruction has a slot, and the slot describes it. -/
theorem exec_follows_busPattern {i : Instr} {s t : State} (h : exec i s = .next t) :
    ∃ slot, i.form.busPattern[s.ctx.step]? = some slot ∧ slot.Describes i.form s t := by
  obtain ⟨row, hrow, rfl⟩ := exec_eq_next h
  obtain ⟨hk, row_eq⟩ := List.getElem?_eq_some_iff.1 hrow
  have hk' : s.ctx.step < i.form.busPattern.length := by rwa [busPattern_length, ← table_length]
  have follows : i.form.RowFollows (row, s.ctx.step) i.form.busPattern[s.ctx.step] := by
    simpa [row_eq] using List.Forall₂.get (table_follows_busPattern i.form) (by simpa using hk) hk'
  exact ⟨_, List.getElem?_eq_getElem hk', follows s rfl⟩

/-- Settles O36: the slot of the cycle describes the row that ran, at the address the slot's kind gives. -/
theorem busPatternFollowsTheTimingTable : Obligations.BusPatternFollowsTheTimingTable := by
  unfold Obligations.BusPatternFollowsTheTimingTable
  refine fun i => ⟨busPattern_length i.form, fun s t h => ?_⟩
  obtain ⟨slot, hslot, describes⟩ := exec_follows_busPattern h
  refine ⟨slot, hslot, ?_⟩
  cases slot with
  | internal => exact ⟨fun _ => describes, by simp, by simp⟩
  | fetch | cbFetch | imm =>
    exact ⟨by simp, by simp, fun _ _ _ => ⟨_, Instr.readAddress_of_pcSlot hslot (by simp), describes⟩⟩
  | dataRead =>
    obtain ⟨a, load_eq, bus_eq⟩ := describes
    exact ⟨by simp, by simp, fun _ _ _ => ⟨a, (Instr.readAddress_of_dataRead hslot).trans load_eq, bus_eq⟩⟩
  | dataWrite =>
    obtain ⟨a, v, store_eq, bus_eq⟩ := describes
    exact ⟨by simp, fun _ => ⟨a, v, (Instr.storeAddress_of_dataWrite hslot).trans store_eq, bus_eq⟩, by simp⟩
  | stackWrite =>
    obtain ⟨qq, v, hform, bus_eq⟩ := describes
    exact ⟨by simp, fun _ => ⟨_, v, Instr.storeAddress_of_stackWrite hform hslot, bus_eq⟩, by simp⟩

end Sys2Proof
end

section
/-!
PROOFS. The decoder and the encoder (30_encoding.md). The dispatcher's maps and the bit patterns are one relation; reading whole
instructions from bytes is that relation and the count of immediate bytes, so it undoes `encode` in both directions.
-/

namespace Sys2Proof

open Machine

/-! ## One opcode byte -/

/-- The dispatcher selects every instruction from its own encoding: the per-instruction laws put together. -/
theorem decode_opcode (i : Instr) : decode i.opcode i.prefixed = some i := by
  cases i <;> rfl

/-- Every cell of the two maps of R78 holds the instruction whose bit pattern is the cell's index. -/
theorem encodeOp_of_cell : ∀ (op : Byte) (p : Bool), (decode op p).all (fun i => encodeOp i == (op, p)) = true := by
  decide

theorem encodeOp_of_decode {op : Byte} {p : Bool} {i : Instr} (h : decode op p = some i) : encodeOp i = (op, p) := by
  have cell := encodeOp_of_cell op p
  rwa [h, Option.all_some, beq_iff_eq] at cell

theorem decode_eq_some_iff {op : Byte} {p : Bool} {i : Instr} : decode op p = some i ↔ encodeOp i = (op, p) := by
  refine ⟨encodeOp_of_decode, fun h => ?_⟩
  obtain ⟨rfl, rfl⟩ := Prod.mk.inj h
  exact decode_opcode i

theorem opcode_of_decode {op : Byte} {p : Bool} {i : Instr} (h : decode op p = some i) : i.opcode = op :=
  congrArg Prod.fst (encodeOp_of_decode h)

theorem prefixed_of_decode {op : Byte} {p : Bool} {i : Instr} (h : decode op p = some i) : i.prefixed = p :=
  congrArg Prod.snd (encodeOp_of_decode h)

theorem decode_cbPrefixByte : decode cbPrefixByte false = some .prefixCB := rfl

/-- The instruction an opcode pattern selects has the pattern's form. -/
theorem form_of_decode {f : Form} {op : Byte} {p : Bool} {i : Instr} (h : decode op p = some i)
    (hop : f.opcode = op := by rfl) (hp : f.prefixed = p := by rfl) : i.form = f := by
  subst hop hp
  simpa [h] using decode_opcode_form f

/-- The CB table has no immediate (30_encoding.md R76). -/
theorem immCount_of_prefixed {i : Instr} (h : i.prefixed = true) : i.immCount = 0 := by
  unfold Instr.prefixed at h
  unfold Instr.immCount
  cases hform : i.form <;> simp [hform, Form.prefixed, Form.immCount] at h ⊢

theorem immCount_le_two (i : Instr) : i.immCount ≤ 2 := by
  unfold Instr.immCount
  cases i.form <;> simp [Form.immCount]

/-! ## The immediate bytes -/

/-- Taking immediate bytes splits the bytes after the opcode, and does nothing else. -/
theorem takeImm_eq_ok_iff {i : Instr} {tail rest : List Byte} {c : Code} :
    takeImm i tail = .ok (c, rest) ↔ c.instr = i ∧ c.imm.length = i.immCount ∧ tail = c.imm ++ rest := by
  obtain ⟨j, imm⟩ := c
  unfold takeImm
  constructor
  · intro h
    split at h
    · cases h
    · rename_i enough
      cases h
      exact ⟨rfl, List.length_take_of_le (Nat.le_of_not_lt enough), (List.take_append_drop _ _).symm⟩
  · rintro ⟨rfl, hlen, rfl⟩
    have enough : ¬ (imm ++ rest).length < j.immCount := by simp [← hlen]
    rw [if_neg enough, ← hlen, List.take_left, List.drop_left]

/-! ## Whole instructions -/

theorem decodeBytes_unprefixed {op : Byte} {i : Instr} (h : decode op false = some i) (hi : i ≠ .prefixCB)
    (tail : List Byte) : decodeBytes (op :: tail) = takeImm i tail := by
  simp only [decodeBytes, h]

theorem decodeBytes_prefixed {cb : Byte} {i : Instr} (h : decode cb true = some i) (tail : List Byte) :
    decodeBytes (cbPrefixByte :: cb :: tail) = takeImm i tail := by
  simp only [decodeBytes, decode_cbPrefixByte, h]

/-- Everything reading a whole instruction can do: an unprefixed opcode, or the prefix byte and a cb-opcode (R70, R81). -/
theorem decodeBytes_eq_ok {bs : List Byte} {r : Code × List Byte} (h : decodeBytes bs = .ok r) :
    (∃ op tail i, bs = op :: tail ∧ decode op false = some i ∧ i ≠ .prefixCB ∧ takeImm i tail = .ok r) ∨
    ∃ cb tail i, bs = cbPrefixByte :: cb :: tail ∧ decode cb true = some i ∧ takeImm i tail = .ok r := by
  unfold decodeBytes at h
  split at h
  case h_1 => cases h
  case h_2 op rest =>
    split at h
    case h_1 => cases h
    case h_2 hop =>
      have op_eq : cbPrefixByte = op := opcode_of_decode hop
      split at h
      case h_1 => cases h
      case h_2 cb tail =>
        split at h
        case h_1 => cases h
        case h_2 i hcb => exact .inr ⟨cb, tail, i, by rw [op_eq], hcb, h⟩
    case h_3 i hi hop => exact .inl ⟨op, rest, i, rfl, hop, hi, h⟩

theorem Code.wellFormed_iff (c : Code) :
    c.wellFormed = true ↔ c.imm.length = c.instr.immCount ∧ c.instr ≠ .prefixCB := by
  simp [Code.wellFormed, Code.immFits, Code.notPrefixAlone]

theorem encode_of_prefixed {c : Code} (h : c.instr.prefixed = true) :
    encode c = cbPrefixByte :: c.instr.opcode :: c.imm := by
  simp [encode, h]

theorem encode_of_unprefixed {c : Code} (h : c.instr.prefixed = false) : encode c = c.instr.opcode :: c.imm := by
  simp [encode, h]

/-- Settles O42: the bytes of `encode` begin with the opcode, prefixed or not, which the dispatcher reads back, and go on with
exactly the immediate bytes. -/
theorem decodeBytesOfEncodeGivesItBack : Obligations.DecodeBytesOfEncodeGivesItBack := by
  unfold Obligations.DecodeBytesOfEncodeGivesItBack
  intro c rest hwf
  obtain ⟨hlen, whole⟩ := c.wellFormed_iff.1 hwf
  have opcode_read := decode_opcode c.instr
  have imm_taken : takeImm c.instr (c.imm ++ rest) = .ok (c, rest) := takeImm_eq_ok_iff.2 ⟨rfl, hlen, rfl⟩
  cases hp : c.instr.prefixed with
  | true =>
    rw [hp] at opcode_read
    rw [encode_of_prefixed hp]
    exact (decodeBytes_prefixed opcode_read _).trans imm_taken
  | false =>
    rw [hp] at opcode_read
    rw [encode_of_unprefixed hp]
    exact (decodeBytes_unprefixed opcode_read whole _).trans imm_taken

/-- Settles O43: in both cases of `decodeBytes` the opcode byte is the instruction's own encoding. -/
theorem encodeOfDecodedBytesGivesThemBack : Obligations.EncodeOfDecodedBytesGivesThemBack := by
  unfold Obligations.EncodeOfDecodedBytesGivesThemBack
  intro bs rest c h
  obtain ⟨op, tail, i, rfl, hop, whole, himm⟩ | ⟨cb, tail, i, rfl, hcb, himm⟩ := decodeBytes_eq_ok h
  case inl =>
    obtain ⟨rfl, hlen, rfl⟩ := takeImm_eq_ok_iff.1 himm
    refine ⟨c.wellFormed_iff.2 ⟨hlen, whole⟩, ?_⟩
    rw [encode_of_unprefixed (prefixed_of_decode hop), opcode_of_decode hop, List.cons_append]
  case inr =>
    obtain ⟨rfl, hlen, rfl⟩ := takeImm_eq_ok_iff.1 himm
    have whole : c.instr ≠ .prefixCB := fun heq => absurd (prefixed_of_decode hcb) (by rw [heq]; decide)
    refine ⟨c.wellFormed_iff.2 ⟨hlen, whole⟩, ?_⟩
    rw [encode_of_prefixed (prefixed_of_decode hcb), opcode_of_decode hcb, List.cons_append, List.cons_append]

/-- Settles O44: the two readings of the opcode table, cell by cell and instruction by instruction. -/
theorem dispatcherMatchesExactlyTheEncoding : Obligations.DispatcherMatchesExactlyTheEncoding := by
  unfold Obligations.DispatcherMatchesExactlyTheEncoding
  exact fun _ _ _ => decode_eq_some_iff

/-- Settles O45: a finite fact about the 512 cells of the two maps. -/
theorem unmappedEncodingsAreRejected : Obligations.UnmappedEncodingsAreRejected := by
  unfold Obligations.UnmappedEncodingsAreRejected
  refine ⟨?unprefixed, ?cbTable, ?halt, ?unassigned⟩
  case unprefixed => decide
  case cbTable => decide
  case halt => decide
  case unassigned => decide

/-- Settles O46: the words by the maps, the codes by their definitions. -/
theorem sampleWordsDecodeAsTheTableSays : Obligations.SampleWordsDecodeAsTheTableSays := by
  unfold Obligations.SampleWordsDecodeAsTheTableSays
  decide

end Sys2Proof
end

section
/-!
PROOFS. One call of `advance_one_cycle` (40_sequencer.md R91, R92): the two cases in which it does nothing, beside the laws of
`Laws/Step.lean` for the two in which it does; then the states of which the next step is known: a ready one, a boundary with PREFIX
CB latched, a reset, and a state with an instruction placed by its table number.
-/

namespace Sys2Proof.Machine

/-! ## The four cases of R92 -/

theorem flagLowNibbleClear_iff (f : Byte) : flagLowNibbleClear f = true ↔ f &&& 0x0F = 0 := beq_iff_eq

theorem step_of_fault {s : State} {r : FaultRecord} (hfault : s.fault = some r) : step s = .fault (.fatalFault r) := by
  simp only [step, advanceOneCycle, hfault]

theorem step_of_lowNibble {s : State} (hfault : s.fault = none) (hnibble : ¬ flagLowNibbleClear s.regs.f = true) :
    step s = .refused .flagLowNibbleSet := by
  simp only [step, advanceOneCycle, hfault, if_neg hnibble]

/-- Settles O48: the four cases of R92, each by its law. -/
theorem stepRunsTheLatchedInstruction : Obligations.StepRunsTheLatchedInstruction := by
  unfold Obligations.StepRunsTheLatchedInstruction
  simp only [ne_eq, ← flagLowNibbleClear_iff]
  exact fun _ => ⟨fun _ hfault => step_of_fault hfault,
    fun _ hfault hnibble hdecode => step_of_latched hfault hnibble hdecode,
    fun hfault hnibble hdecode => step_of_unmapped hfault hnibble hdecode,
    fun hfault hnibble => step_of_lowNibble hfault hnibble⟩

/-- Settles O51: a run's first step is the latched fault, and reset builds a state without one. -/
theorem latchedFaultIsTerminalUntilReset : Obligations.LatchedFaultIsTerminalUntilReset := by
  unfold Obligations.LatchedFaultIsTerminalUntilReset
  intro s r hfault
  have stops : step s = .fault (.fatalFault r) := step_of_fault hfault
  exact ⟨stops, fun n t => by simp [run, stops], fun _ => rfl⟩

/-- Settles O35: a cycle table has no row at or above its form's cycle count. -/
theorem stepPastTheLastRowIsRefused : Obligations.StepPastTheLastRowIsRefused := by
  unfold Obligations.StepPastTheLastRowIsRefused
  intro i s hpast
  have no_row : i.form.table[s.ctx.step]? = none := List.getElem?_eq_none ((table_length i.form).trans_le hpast)
  rw [exec_eq_runRow, runRow, no_row]

/-! ## Ready states -/

theorem State.ReadyFor.step_eq_exec {i : Instr} {s : State} (h : s.ReadyFor i) : step s = exec i s :=
  step_of_latched h.noFault h.flagsOk h.latch

/-- PREFIX CB's cycle, from the boundary at which 0xCB is latched (40_sequencer.md R112). -/
theorem step_prefixCB {s : State} (h : s.ReadyFor .prefixCB) : step s = .next s.latchCb :=
  h.step_eq_exec.trans (exec_prefixCB h.step0)

/-- The state after PREFIX CB's cycle is ready for the CB-table instruction the bus answered. -/
theorem readyFor_latchCb {i : Instr} {s : State} (h : s.ReadyFor .prefixCB)
    (hcb : decode (s.busAnswer s.regs.pc) true = some i) : s.latchCb.ReadyFor i where
  noFault := h.noFault
  flagsOk := h.flagsOk
  latch := hcb
  step0 := rfl

/-- A cb-opcode with no handler faults in the cycle after PREFIX CB's, with pc after both bytes (30_encoding.md R81). -/
theorem run_two_of_unmapped_cb {s : State} (h : s.ReadyFor .prefixCB) (hcb : decode (s.busAnswer s.regs.pc) true = none) :
    run 2 s = .next s.latchCb.raiseFatalFault := by
  have faults : step s.latchCb = .next s.latchCb.raiseFatalFault := step_of_unmapped h.noFault h.flagsOk hcb
  rw [run_succ_of_next (step_prefixCB h), run_succ_of_next faults, run_zero]

/-- Settles O53: PREFIX CB's cycle latches the cb-opcode with the prefix bit, and the next cycle dispatches on it. -/
theorem prefixCbLeadsToTheCbTable : Obligations.PrefixCbLeadsToTheCbTable := by
  unfold Obligations.PrefixCbLeadsToTheCbTable
  intro s boundary hnibble hopcode
  have latched : s.latched = some .prefixCB := by rw [State.latched, hopcode, boundary.notPrefixed]; rfl
  have ready : s.ReadyFor .prefixCB := ⟨boundary.noFault, hnibble, latched, boundary.step0⟩
  refine ⟨fun i hcb => ?mapped, fun hcb => ?unmapped, fun hcb => ?prefixByte⟩
  case mapped =>
    have no_boundary : ¬ s.latchCb.AtBoundary := fun b => by simpa using b.notPrefixed
    exact ⟨s.latchCb, step_prefixCB ready, readyFor_latchCb ready hcb, rfl, no_boundary⟩
  case unmapped => exact ⟨_, run_two_of_unmapped_cb ready hcb, rfl⟩
  case prefixByte =>
    have unmapped : decode (s.busAnswer s.regs.pc) true = none := by rw [hcb]; decide
    exact ⟨_, run_two_of_unmapped_cb ready unmapped, by simp [hcb]⟩

/-! ## After reset -/

/-- Settles O54: reset's state is written out in `State.resetOn`, and `State.reset` is one with `BOOT_REGS` absent. -/
theorem resetPutsEveryPieceOfStateToItsValue : Obligations.ResetPutsEveryPieceOfStateToItsValue := by
  unfold Obligations.ResetPutsEveryPieceOfStateToItsValue
  intro boot s
  refine ⟨rfl, rfl, rfl, ?absent, ?present, Bus.empty, rfl⟩
  case absent => rintro rfl; rfl
  case present => rintro r rfl; rfl

theorem flagLowNibbleClear_reset (boot : Option BootRegs) : flagLowNibbleClear (Regs.reset boot).f = true := by
  cases boot with
  | none => rfl
  | some r => exact flagLowNibbleClear_mask r.f

/-- Reset latches NOP (10_state.md R42). -/
theorem readyFor_resetOn (boot : Option BootRegs) (bus : Bus) : (State.resetOn boot bus).ReadyFor .nop where
  noFault := rfl
  flagsOk := flagLowNibbleClear_reset boot
  latch := Laws.DispatchesTo.nop
  step0 := rfl

/-- Settles O55: the latched NOP's one row is FETCH. -/
theorem firstCycleFetchesAtResetPc : Obligations.FirstCycleFetchesAtResetPc := by
  unfold Obligations.FirstCycleFetchesAtResetPc
  intro boot bus s
  have fetches : step s = .next s.fetch := (readyFor_resetOn boot bus).step_eq_exec.trans (exec_nop rfl)
  exact ⟨⟨rfl, rfl, rfl⟩, fetches, run_succ_of_next fetches, rfl⟩

end Sys2Proof.Machine

namespace Sys2Proof

open Machine Stated

/-! ## After placing an instruction by its number -/

/-- A number of 8 bits is latched as it is; 0xCB is then PREFIX CB alone. -/
theorem tableLatch_byte (op : Byte) : tableLatch 8 op.toNat = (op, false) := by
  revert op; decide

/-- A CB row's number is latched as its cb-opcode. -/
theorem tableLatch_cbRow (op : Byte) : tableLatch 16 (0xCB00 + op.toNat) = (op, true) := by
  revert op; decide

theorem tableLatch_tableNumber (i : Instr) : tableLatch (tableNumber i).1 (tableNumber i).2 = encodeOp i := by
  unfold tableNumber encodeOp
  cases hp : i.prefixed with
  | true => exact tableLatch_cbRow i.opcode
  | false => exact tableLatch_byte i.opcode

theorem decodeTableWord_tableNumber (i : Instr) : decodeTableWord (tableNumber i).1 (tableNumber i).2 = some i := by
  rw [decodeTableWord, tableLatch_tableNumber]
  exact decode_opcode i

theorem readyFor_withFetchWord {i : Instr} {nbits w : Nat} (hword : decodeTableWord nbits w = some i) {s : State}
    (hnibble : flagLowNibbleClear s.regs.f = true) : (s.withFetchWord nbits w).ReadyFor i where
  noFault := rfl
  flagsOk := hnibble
  latch := hword
  step0 := rfl

/-- Settles O47: a table number is latched as the row's own encoding, and placing it latches it with the cursor at row c0. -/
theorem tableNumberIsFetchedAndRun : Obligations.TableNumberIsFetchedAndRun := by
  unfold Obligations.TableNumberIsFetchedAndRun
  intro i
  have word_read := decodeTableWord_tableNumber i
  exact ⟨word_read, fun s hnibble =>
    ⟨readyFor_withFetchWord word_read hnibble, (readyFor_withFetchWord word_read hnibble).step_eq_exec⟩⟩

end Sys2Proof
end

section
/-!
PROOFS. What a cycle can do to the bus, to pc, and to the registers, flags and fault latch, said once each for every row of every
cycle table; the frame obligations (20_memory.md R60, 10_state.md R21 to R31) are read off them.
-/

namespace Sys2Proof

open Machine Stated

section Frames

variable {i : Instr} {s t : State}

/-! ## The bus -/

/-- A row leaves the bus alone, reads once, or writes once, and then at its store address (40_sequencer.md R93, 20_memory.md
R60). -/
theorem exec_bus_cases (h : exec i s = .next t) :
    t.bus = s.bus ∨ (∃ a, t.bus = (s.afterRead a).bus) ∨
      ∃ a v, i.storeAddress s = some a ∧ t.bus = (s.busWrite a v).bus := by
  obtain ⟨slot, -, internal, write, read⟩ := (busPatternFollowsTheTimingTable i).2 s t h
  cases slot with
  | internal => exact .inl (internal rfl)
  | dataWrite => exact .inr (.inr (write (.inl rfl)))
  | stackWrite => exact .inr (.inr (write (.inr rfl)))
  | fetch | cbFetch | imm | dataRead =>
    obtain ⟨a, -, bus_eq⟩ := read nofun nofun nofun
    exact .inr (.inl ⟨a, bus_eq⟩)

theorem exec_events (h : exec i s = .next t) : t.bus.events = s.bus.events ∨ ∃ e, t.bus.events = s.bus.events ++ [e] := by
  obtain bus_eq | ⟨a, bus_eq⟩ | ⟨a, v, -, bus_eq⟩ := exec_bus_cases h
  · exact .inl (by rw [bus_eq])
  · exact .inr ⟨_, by rw [bus_eq, State.afterRead_events]⟩
  · exact .inr ⟨_, by rw [bus_eq, State.busWrite_events]⟩

theorem exec_keeps_ram_wf (h : exec i s = .next t) (hwf : s.bus.ram.wf = true) : t.bus.ram.wf = true := by
  obtain bus_eq | ⟨a, bus_eq⟩ | ⟨a, v, -, bus_eq⟩ := exec_bus_cases h
  · rwa [bus_eq]
  · rwa [bus_eq, State.afterRead_ram]
  · rw [bus_eq, State.busWrite_ram]
    exact Memory.wf_write a v hwf

/-! ## pc -/

/-- How far pc moves in a cycle: by one where the cycle reads at pc (10_state.md R22). -/
def Slot.pcStep : Slot → Nat
  | .fetch | .cbFetch | .imm => 1
  | .dataRead | .dataWrite | .stackWrite | .internal => 0

/-- Each row of a cycle table moves pc as its slot in the timing table says. -/
theorem table_movesPc (f : Form) :
    List.Forall₂ (fun row slot => ∀ s : State, (row s).regs.pc = s.regs.pc + BitVec.ofNat 16 slot.pcStep)
      f.table f.busPattern := by
  cases f <;> simp [Form.table, Form.busPattern, Slot.pcStep, nopTable, prefixCBTable, load8Table, Source8.readRows,
    Dest8.writeRows, Dest8.commit, readImm16, readImm8, readImmLo, readImmHi, readImmHigh, ldPairImmTable, ldSPHLTable,
    ldDirSPTable, writeDir16, cpTable, rmwHLTable, incRegTable, decRegTable, incPairTable, decPairTable, rlRegTable, bitTable,
    pushTable, pushRows, pushByte]

theorem exec_pc (h : exec i s = .next t) :
    ∃ slot, i.form.busPattern[s.ctx.step]? = some slot ∧ t.regs.pc = s.regs.pc + BitVec.ofNat 16 slot.pcStep := by
  obtain ⟨row, hrow, rfl⟩ := exec_eq_next h
  obtain ⟨hk, rfl⟩ := List.getElem?_eq_some_iff.1 hrow
  have hk' : s.ctx.step < i.form.busPattern.length := by rwa [busPattern_length, ← table_length]
  exact ⟨_, List.getElem?_eq_getElem hk', List.Forall₂.get (table_movesPc i.form) hk hk' s⟩

/-! ## Registers, flags and the fault latch -/

/-- Two values of f that agree on the low nibble and on the flags a form does not write (10_state.md R30, R31). -/
structure Form.FlagFrame (f : Form) (v w : Byte) : Prop where
  flag : ∀ x, x ∉ flagsWritten f → getFlag x w = getFlag x v
  lowNibble : w &&& 0x0F = v &&& 0x0F

/-- Two states that agree on all a form has to leave alone: its other 8-bit registers, sp, the flags and the fault latch
(10_state.md R21, R23, R31; 60_exceptions.md R225). It is an equivalence relation; pc, the cursor, scratch and the bus are free. -/
structure Form.Frame (f : Form) (s t : State) : Prop where
  get8 : ∀ r, r ∉ destRegs f → t.get8 r = s.get8 r
  sp : writesSp f = false → t.regs.sp = s.regs.sp
  flags : f.FlagFrame s.regs.f t.regs.f
  fault : t.fault = s.fault

variable {f : Form} {u : State} {v w : Byte}

@[simp] theorem Form.FlagFrame.refl (f : Form) (v : Byte) : f.FlagFrame v v := ⟨fun _ _ => rfl, rfl⟩

@[simp] theorem Form.Frame.refl (f : Form) (s : State) : f.Frame s s := ⟨fun _ _ => rfl, fun _ => rfl, .refl f _, rfl⟩

theorem Form.Frame.symm (h : f.Frame s t) : f.Frame t s where
  get8 r hr := (h.get8 r hr).symm
  sp hsp := (h.sp hsp).symm
  flags := ⟨fun x hx => (h.flags.flag x hx).symm, h.flags.lowNibble.symm⟩
  fault := h.fault.symm

theorem Form.Frame.trans (h : f.Frame s t) (h' : f.Frame t u) : f.Frame s u where
  get8 r hr := (h'.get8 r hr).trans (h.get8 r hr)
  sp hsp := (h'.sp hsp).trans (h.sp hsp)
  flags := ⟨fun x hx => (h'.flags.flag x hx).trans (h.flags.flag x hx), h'.flags.lowNibble.trans h.flags.lowNibble⟩
  fault := h'.fault.trans h.fault

theorem Form.Frame.congr (h : f.Frame t u) : f.Frame s u ↔ f.Frame s t :=
  ⟨fun hu => hu.trans h.symm, fun ht => ht.trans h⟩

/-! ### One rule per micro-operation -/

/-- What writes at most pc among the registers keeps every frame. -/
theorem Form.Frame.of_pc (hregs : ∃ p, u.regs = { t.regs with pc := p } := by exact ⟨_, rfl⟩)
    (hfault : u.fault = t.fault := by rfl) : f.Frame t u := by
  obtain ⟨p, regs_eq⟩ := hregs
  refine ⟨fun r _ => ?_, fun _ => by rw [regs_eq], by rw [regs_eq]; exact .refl f _, hfault⟩
  rw [State.get8, regs_eq]
  cases r <;> rfl

@[simp] theorem frame_advance : f.Frame s t.advance ↔ f.Frame s t := Form.Frame.congr .of_pc
@[simp] theorem frame_fetch : f.Frame s t.fetch ↔ f.Frame s t := Form.Frame.congr .of_pc
@[simp] theorem frame_latchCb : f.Frame s t.latchCb ↔ f.Frame s t := Form.Frame.congr .of_pc
@[simp] theorem frame_afterRead (a : Word) : f.Frame s (t.afterRead a) ↔ f.Frame s t := Form.Frame.congr .of_pc
@[simp] theorem frame_busWrite (a : Word) : f.Frame s (t.busWrite a v) ↔ f.Frame s t := Form.Frame.congr .of_pc
@[simp] theorem frame_setPc (p : Word) : f.Frame s (t.setPc p) ↔ f.Frame s t := Form.Frame.congr .of_pc
@[simp] theorem frame_setScratch8 : f.Frame s (t.setScratch8 v) ↔ f.Frame s t := Form.Frame.congr .of_pc
@[simp] theorem frame_setScratch16 (a : Word) : f.Frame s (t.setScratch16 a) ↔ f.Frame s t := Form.Frame.congr .of_pc
@[simp] theorem frame_loadScratch8 (a : Word) : f.Frame s (t.loadScratch8 a) ↔ f.Frame s t := Form.Frame.congr .of_pc

/-- The membership is a Bool equation, which `simp` computes for each form. -/
@[simp] theorem frame_set8 {dst : Reg8} (hdst : (destRegs f).contains dst = true) :
    f.Frame s (t.set8 dst v) ↔ f.Frame s t :=
  Form.Frame.congr
    { get8 := fun r hr => Regs.get8_set8_other _ dst r v fun heq => hr (heq ▸ List.contains_iff_mem.1 hdst)
      sp := fun _ => t.regs.set8_sp dst v
      flags := by rw [State.set8_regs, Regs.set8_f]; exact .refl f _
      fault := rfl }

theorem frame_setSp (hsp : writesSp f ≠ false) (a : Word) : f.Frame s (t.set16 .sp a) ↔ f.Frame s t :=
  Form.Frame.congr
    { get8 := fun r _ => by cases r <;> rfl
      sp := fun hno => absurd hno hsp
      flags := .refl f _
      fault := rfl }

@[simp] theorem frame_setSp_ldSPHL (a : Word) : Form.ldSPHL.Frame s (t.set16 .sp a) ↔ Form.ldSPHL.Frame s t :=
  frame_setSp (by decide) a

@[simp] theorem frame_setSp_push (qq : PairQQ) (a : Word) :
    (Form.push qq).Frame s (t.set16 .sp a) ↔ (Form.push qq).Frame s t :=
  frame_setSp (by simp [writesSp]) a

/-- A 16-bit write is the writes of the two halves (10_state.md R26). -/
@[simp] theorem frame_setHl (hh : (destRegs f).contains .h = true) (hl : (destRegs f).contains .l = true) (a : Word) :
    f.Frame s (t.set16 .hl a) ↔ f.Frame s t :=
  (frame_set8 (t := t.set8 .h (hiByte a)) hl).trans (frame_set8 hh)

theorem frame_setPair {rr : PairRR} (hhalves : destRegs f = pairHalves rr) (hsp : rr = .sp → writesSp f ≠ false) (a : Word) :
    f.Frame s (t.set16 (pairReg rr) a) ↔ f.Frame s t := by
  cases rr with
  | bc =>
    exact (frame_set8 (dst := .c) (t := t.set8 .b (hiByte a)) (by rw [hhalves]; decide)).trans
      (frame_set8 (by rw [hhalves]; decide))
  | de =>
    exact (frame_set8 (dst := .e) (t := t.set8 .d (hiByte a)) (by rw [hhalves]; decide)).trans
      (frame_set8 (by rw [hhalves]; decide))
  | hl => exact frame_setHl (by rw [hhalves]; decide) (by rw [hhalves]; decide) a
  | sp => exact frame_setSp (hsp rfl) a

@[simp] theorem frame_setPair_ldPairImm (rr : PairRR) (a : Word) :
    (Form.ldPairImm rr).Frame s (t.set16 (pairReg rr) a) ↔ (Form.ldPairImm rr).Frame s t :=
  frame_setPair rfl (by rintro rfl; decide) a

@[simp] theorem frame_setPair_incPair (rr : PairRR) (a : Word) :
    (Form.incPair rr).Frame s (t.set16 (pairReg rr) a) ↔ (Form.incPair rr).Frame s t :=
  frame_setPair rfl (by rintro rfl; decide) a

@[simp] theorem frame_setPair_decPair (rr : PairRR) (a : Word) :
    (Form.decPair rr).Frame s (t.set16 (pairReg rr) a) ↔ (Form.decPair rr).Frame s t :=
  frame_setPair rfl (by rintro rfl; decide) a

/-- A flag setter keeps the low nibble and every other flag (10_state.md R29). -/
@[simp] theorem flagFrame_setFlag {x : Flag} (hx : (flagsWritten f).contains x = true) (b : Bool) :
    f.FlagFrame v (setFlag x b w) ↔ f.FlagFrame v w := by
  have other : ∀ y, y ∉ flagsWritten f → getFlag y (setFlag x b w) = getFlag y w := fun y hy =>
    getFlag_setFlag_other x y b w fun heq => hy (heq ▸ List.contains_iff_mem.1 hx)
  have nibble : setFlag x b w &&& 0x0F = w &&& 0x0F := lowNibble_setFlag x b w
  exact ⟨fun h => ⟨fun y hy => (other y hy).symm.trans (h.flag y hy), nibble.symm.trans h.lowNibble⟩,
    fun h => ⟨fun y hy => (other y hy).trans (h.flag y hy), nibble.trans h.lowNibble⟩⟩

@[simp] theorem frame_setF (hflags : f.FlagFrame t.regs.f v) : f.Frame s (t.setF v) ↔ f.Frame s t :=
  Form.Frame.congr
    { get8 := fun r _ => by cases r <;> rfl
      sp := fun _ => rfl
      flags := hflags
      fault := rfl }

/-! ### Every row -/

/-- Every row of a cycle table keeps the frame of its form: each is a chain of the micro-operations above. -/
theorem table_keepsFrame (f : Form) : ∀ row ∈ f.table, ∀ s : State, f.Frame s (row s) := by
  cases f <;> simp [Form.table, nopTable, prefixCBTable, load8Table, Source8.readRows, Dest8.writeRows, Dest8.commit,
    readImm16, readImm8, readImmLo, readImmHi, readImmHigh, ldPairImmTable, ldSPHLTable, ldDirSPTable, writeDir16, cpTable,
    rmwHLTable, incRegTable, decRegTable, incPairTable, decPairTable, rlRegTable, bitTable, pushTable, pushRows, pushByte,
    State.compareA, State.incReg8, State.decReg8, State.rlReg8, State.incScratch8, State.decScratch8, State.rlScratch8,
    State.bitTest, cpFlags, inc8Flags, dec8Flags, rl8Flags, bitTestFlags, destRegs, flagsWritten]

theorem exec_keepsFrame (h : exec i s = .next t) : i.form.Frame s t := by
  obtain ⟨row, hrow, rfl⟩ := exec_eq_next h
  exact table_keepsFrame i.form row (List.mem_of_getElem? hrow) s

theorem exec_fault (h : exec i s = .next t) : t.fault = s.fault := (exec_keepsFrame h).fault

theorem exec_keeps_flagLowNibbleClear (h : exec i s = .next t) (hnibble : flagLowNibbleClear s.regs.f = true) :
    flagLowNibbleClear t.regs.f = true := by
  rw [flagLowNibbleClear_iff] at hnibble ⊢
  exact (exec_keepsFrame h).flags.lowNibble.trans hnibble

end Frames

/-! ## The obligations -/

/-- Settles O37: the fatal fault makes no bus access, and a row makes at most one. -/
theorem atMostOneBusEventPerCycle : Obligations.AtMostOneBusEventPerCycle := by
  unfold Obligations.AtMostOneBusEventPerCycle
  intro s t h
  obtain ⟨-, -, ⟨-, rfl⟩ | ⟨i, -, hexec⟩⟩ := step_eq_next h
  · exact .inl rfl
  · exact exec_events hexec

/-- Settles O38: only a write changes the RAM, and it is at the store address. -/
theorem rowsStoreOnlyAtTheStoreAddress : Obligations.RowsStoreOnlyAtTheStoreAddress := by
  unfold Obligations.RowsStoreOnlyAtTheStoreAddress
  intro i s t h a ha
  obtain bus_eq | ⟨b, bus_eq⟩ | ⟨b, v, store_eq, bus_eq⟩ := exec_bus_cases h
  · rw [bus_eq]
  · rw [bus_eq, State.afterRead_ram]
  · have a_ne : a ≠ b := fun heq => ha (heq ▸ store_eq)
    rw [bus_eq, State.busWrite_ram, Memory.read_write_other _ v a_ne]

/-- Settles O41: the slot of the cycle says how far pc moves. -/
theorem pcAdvancesOnlyWithReadsAtPc : Obligations.PcAdvancesOnlyWithReadsAtPc := by
  unfold Obligations.PcAdvancesOnlyWithReadsAtPc
  intro i s t h
  obtain ⟨slot, hslot, pc_eq⟩ := exec_pc h
  rw [pc_eq, hslot]
  cases slot <;> rfl

/-- Settles O39: the registers of the frame. -/
theorem rowsWriteOnlyTheFormsRegisters : Obligations.RowsWriteOnlyTheFormsRegisters := by
  unfold Obligations.RowsWriteOnlyTheFormsRegisters
  intro i s t h
  obtain ⟨get8, sp, -, fault⟩ := exec_keepsFrame h
  exact ⟨get8, sp, fault⟩

/-- Settles O40: the flags of the frame. -/
theorem rowsWriteOnlyTheFormsFlags : Obligations.RowsWriteOnlyTheFormsFlags := by
  unfold Obligations.RowsWriteOnlyTheFormsFlags
  intro i s t h
  obtain ⟨-, -, ⟨flag, lowNibble⟩, -⟩ := exec_keepsFrame h
  exact ⟨flag, lowNibble⟩

end Sys2Proof
end

section
/-!
PROOFS. The invariant (`State.Inv`): it holds after every reset and every step keeps it, by what one cycle can do to the cursor and
by the frames of the rows; what follows for reachable states and for the value a call returns.
-/

namespace Sys2Proof.Machine

section Invariant

variable {i : Instr} {s t : State}

/-! ## The cursor -/

theorem cycles_pos (i : Instr) : 0 < i.cycles := by
  unfold Instr.cycles
  cases i.form <;> simp [Form.cycles]

/-- The longest instruction is LD (nn),SP (40_sequencer.md R96). -/
theorem cycles_le_five (i : Instr) : i.cycles ≤ 5 := by
  unfold Instr.cycles
  cases i.form <;> simp [Form.cycles]

/-- A step that performed a row had a row to perform (40_sequencer.md R99). -/
theorem step_lt_cycles_of_exec (h : exec i s = .next t) : s.ctx.step < i.cycles := by
  obtain ⟨row, hrow, -⟩ := exec_eq_next h
  obtain ⟨hk, -⟩ := List.getElem?_eq_some_iff.1 hrow
  exact hk.trans_eq (table_length i.form)

/-- What a cycle does to the cursor: it moves to the next row of the same instruction, it is the last row and ends with FETCH, or it
is PREFIX CB's (40_sequencer.md R95, R112). -/
theorem exec_cursor_cases (h : exec i s = .next t) :
    (s.ctx.step + 1 < i.cycles ∧ t.ctx.step = s.ctx.step + 1 ∧ t.latched = s.latched) ∨
    (s.ctx.step + 1 = i.cycles ∧ ∃ u : State, t = u.fetch ∧ u.bus = s.bus ∧ u.regs.pc = s.regs.pc) ∨
    (i = .prefixCB ∧ s.ctx.step = 0 ∧ t = s.latchCb) := by
  have hk := step_lt_cycles_of_exec h
  by_cases hi : i = .prefixCB
  case pos =>
    subst hi
    have hstep : s.ctx.step = 0 := Nat.lt_one_iff.1 hk
    rw [exec_prefixCB hstep] at h
    exact .inr (.inr ⟨rfl, hstep, by cases h; rfl⟩)
  case neg =>
    obtain hlast | hinner : s.ctx.step + 1 = i.cycles ∨ s.ctx.step + 1 < i.cycles := by omega
    · obtain ⟨u, fetches, keepsBusAndPc⟩ := exec_last_row hi hlast
      rw [fetches] at h
      exact .inr (.inl ⟨hlast, u, by cases h; rfl, keepsBusAndPc⟩)
    · obtain ⟨t', advances, step_eq, opcode_eq, prefixed_eq⟩ := exec_before_last_row hi hinner
      rw [advances] at h
      cases h
      exact .inl ⟨hinner, step_eq, by rw [State.latched, State.latched, opcode_eq, prefixed_eq]⟩

/-! ## The invariant is kept -/

theorem inv_raiseFatalFault (hs : s.Inv) (hlatched : s.latched = none) : s.raiseFatalFault.Inv where
  flagsOk := hs.flagsOk
  ramWf := hs.ramWf
  stepInTable := hs.stepInTable
  stepUnmapped := hs.stepUnmapped
  scratchClear := hs.scratchClear
  faultRecord _ hr := ⟨hlatched, (Option.some.inj hr).symm⟩

/-- The cursor's clauses of the invariant, for a state at row c0 with scratch clear. -/
theorem inv_of_step_zero (hflags : flagLowNibbleClear t.regs.f = true) (hram : t.bus.ram.wf = true)
    (hfault : t.fault = none) (hstep : t.ctx.step = 0) (h8 : t.ctx.scratch8 = 0) (h16 : t.ctx.scratch16 = 0) : t.Inv where
  flagsOk := hflags
  ramWf := hram
  stepInTable j _ := hstep ▸ cycles_pos j
  stepUnmapped _ := hstep
  scratchClear _ := ⟨h8, h16⟩
  faultRecord r hr := by simp [hfault] at hr

theorem inv_of_exec (hs : s.Inv) (hfault : s.fault = none) (hlatched : s.latched = some i) (h : exec i s = .next t) :
    t.Inv := by
  have flagsOk := exec_keeps_flagLowNibbleClear h hs.flagsOk
  have ramWf := exec_keeps_ram_wf h hs.ramWf
  have noFault : t.fault = none := (exec_fault h).trans hfault
  obtain ⟨hinner, step_eq, latched_eq⟩ | ⟨-, u, rfl, -, -⟩ | ⟨-, hstep, rfl⟩ := exec_cursor_cases h
  case inl =>
    have t_latched : t.latched = some i := latched_eq.trans hlatched
    exact
      { flagsOk := flagsOk
        ramWf := ramWf
        stepInTable := fun j hj => by
          obtain rfl : i = j := Option.some.inj (t_latched.symm.trans hj)
          rwa [step_eq]
        stepUnmapped := fun hnone => by simp [t_latched] at hnone
        scratchClear := fun hzero => by simp [step_eq] at hzero
        faultRecord := fun r hr => by simp [noFault] at hr }
  case inr.inl => exact inv_of_step_zero flagsOk ramWf noFault rfl rfl rfl
  case inr.inr =>
    obtain ⟨h8, h16⟩ := hs.scratchClear hstep
    exact inv_of_step_zero flagsOk ramWf noFault rfl h8 h16

/-- A step takes the fatal fault or performs a row, and both keep the invariant. -/
theorem inv_of_step (hs : s.Inv) (h : step s = .next t) : t.Inv := by
  obtain ⟨hfault, -, ⟨hlatched, rfl⟩ | ⟨i, hlatched, hexec⟩⟩ := step_eq_next h
  · exact inv_raiseFatalFault hs hlatched
  · exact inv_of_exec hs hfault hlatched hexec

/-- Reset is at row c0 of NOP, with scratch and f's low nibble clear, and keeps the RAM. -/
theorem inv_resetOn (boot : Option BootRegs) {bus : Bus} (hram : bus.ram.wf = true) : (State.resetOn boot bus).Inv :=
  inv_of_step_zero (flagLowNibbleClear_reset boot) hram rfl rfl rfl rfl

/-! ## A state that meets the invariant steps on -/

/-- The three things the step of a state in the invariant can be (60_exceptions.md R223): no refusal is among them. -/
theorem inv_step_cases (hs : s.Inv) :
    (∃ r, s.fault = some r ∧ step s = .fault (.fatalFault r)) ∨
    (s.fault = none ∧ s.latched = none ∧ step s = .next s.raiseFatalFault) ∨
    ∃ i t, s.fault = none ∧ s.latched = some i ∧ step s = .next t ∧ t.fault = none := by
  cases hfault : s.fault with
  | some r => exact .inl ⟨r, rfl, step_of_fault hfault⟩
  | none =>
    cases hlatched : s.latched with
    | none => exact .inr (.inl ⟨rfl, rfl, step_of_unmapped hfault hs.flagsOk hlatched⟩)
    | some i =>
      obtain ⟨row, hrow⟩ := exists_row_of_lt_cycles (hs.stepInTable i hlatched)
      have performs : exec i s = .next (row s) := exec_of_getElem? hrow
      exact .inr (.inr ⟨i, row s, rfl, rfl, (step_of_latched hfault hs.flagsOk hlatched).trans performs,
        (exec_fault performs).trans hfault⟩)

theorem inv_step_le_four (hs : s.Inv) : s.ctx.step ≤ 4 := by
  cases hlatched : s.latched with
  | none => rw [hs.stepUnmapped hlatched]; decide
  | some i => exact Nat.le_of_lt_succ ((hs.stepInTable i hlatched).trans_le (cycles_le_five i))

theorem inv_never_stuck (hs : s.Inv) :
    s.ctx.step ≤ 4 ∧ s.regs.f &&& 0x0F = 0 ∧
      (∀ r, step s ≠ .refused r) ∧ (s.fault = none → ∃ t, step s = .next t) := by
  refine ⟨inv_step_le_four hs, (flagLowNibbleClear_iff _).1 hs.flagsOk, ?_⟩
  obtain ⟨r, hfault, step_eq⟩ | ⟨-, -, step_eq⟩ | ⟨i, t, -, -, step_eq, -⟩ := inv_step_cases hs
  · exact ⟨by simp [step_eq], by simp [hfault]⟩
  · exact ⟨by simp [step_eq], fun _ => ⟨_, step_eq⟩⟩
  · exact ⟨by simp [step_eq], fun _ => ⟨t, step_eq⟩⟩

theorem inv_of_reachable (h : Reachable s) : s.Inv := by
  induction h with
  | reset boot bus hram => exact inv_resetOn boot hram
  | step _ ht ih => exact inv_of_step ih ht

end Invariant

/-! ## The obligations -/

/-- Settles O57: the fatal fault and every row keep the invariant. -/
theorem everyStepKeepsTheInvariant : Obligations.EveryStepKeepsTheInvariant := by
  unfold Obligations.EveryStepKeepsTheInvariant
  exact fun _ _ hs h => inv_of_step hs h

/-- Settles O56: the reset state, clause by clause. -/
theorem resetMeetsTheInvariant : Obligations.ResetMeetsTheInvariant := by
  unfold Obligations.ResetMeetsTheInvariant
  exact fun boot _ hram => inv_resetOn boot hram

/-- Settles O58: by induction on reachability (`inv_of_reachable`), and the cases of the step in the invariant. -/
theorem reachableStatesNeverGetStuck : Obligations.ReachableStatesNeverGetStuck := by
  unfold Obligations.ReachableStatesNeverGetStuck
  exact ⟨fun _ h => inv_of_reachable h, fun _ hs => inv_never_stuck hs, fun _ h => inv_never_stuck (inv_of_reachable h)⟩

/-- Settles O52: each case of the step in the invariant returns its own value. -/
theorem returnedValueReportsTheFault : Obligations.ReturnedValueReportsTheFault := by
  unfold Obligations.ReturnedValueReportsTheFault
  intro s hs
  obtain ⟨r, hfault, step_eq⟩ | ⟨hfault, hlatched, step_eq⟩ | ⟨i, t, hfault, hlatched, step_eq, noFault⟩ :=
    inv_step_cases hs
  · simp only [step_eq, hfault, returnedResult]
  · simp only [step_eq, hfault, hlatched, returnedResult, State.raiseFatalFault_fault]
  · simp only [step_eq, hfault, hlatched, returnedResult, noFault]

end Sys2Proof.Machine
end

section
/-!
PROOFS. The bus as the core sees it (20_memory.md R50 to R53): what a read answers, that a cycle sees no more of the bus than that
answer, and that the canonical RAM is determined by what it answers.
-/

namespace Sys2Proof.Machine

/-! ## What a read answers (20_memory.md R51) -/

theorem busAnswer_of_scripted {s : State} {v : Byte} {rest : List (Option Byte)} (h : s.bus.answers = some v :: rest)
    (a : Word) : s.busAnswer a = v := by
  rw [State.busAnswer, h]

theorem busAnswer_of_unscripted {s : State} {rest : List (Option Byte)} (h : s.bus.answers = none :: rest) (a : Word) :
    s.busAnswer a = s.bus.ram.read a := by
  rw [State.busAnswer, h]

theorem busAnswer_of_flat {s : State} (h : s.bus.answers = []) (a : Word) : s.busAnswer a = s.bus.ram.read a := by
  rw [State.busAnswer, h]

/-- Settles O2: over the flat RAM by the laws of `Memory.write`; the effects of the two bus operations are their definitions. -/
theorem busReadsReturnTheLastByteWritten : Obligations.BusReadsReturnTheLastByteWritten := by
  unfold Obligations.BusReadsReturnTheLastByteWritten
  refine ⟨fun s a v hwf hflat => ⟨?same, fun b hb => ?other, fun b c => ?read⟩, fun s a v =>
    ⟨fun w rest h => busAnswer_of_scripted h a, fun rest h => busAnswer_of_unscripted h a, fun h => busAnswer_of_flat h a,
      rfl, rfl⟩⟩
  case same => rw [busAnswer_of_flat (s := s.busWrite a v) hflat, State.busWrite_ram, Memory.read_write_same a v hwf]
  case other =>
    rw [busAnswer_of_flat (s := s.busWrite a v) hflat, busAnswer_of_flat hflat, State.busWrite_ram,
      Memory.read_write_other _ v hb]
  case read =>
    have flat_after : (s.afterRead b).bus.answers = [] := by rw [State.afterRead_answers, hflat, List.tail_nil]
    rw [busAnswer_of_flat flat_after, busAnswer_of_flat hflat, State.afterRead_ram]

/-! ## The canonical RAM is determined by what it reads (20_memory.md R53) -/

theorem Memory.wfFrom_cons_iff {low k : Nat} {v : Byte} {m : Memory} :
    Memory.wfFrom low ((k, v) :: m) = true ↔
      low ≤ k ∧ k < 65536 ∧ v ≠ Config.ramInit ∧ Memory.wfFrom (k + 1) m = true := by
  simp only [Memory.wfFrom, Bool.and_eq_true, decide_eq_true_eq, and_assoc]

/-- `Memory.read` at an address given as a number. -/
def Memory.byteAt (m : Memory) (a : Nat) : Byte := (m.find a).getD Config.ramInit

theorem Memory.byteAt_below {m : Memory} {low a : Nat} (h : m.wfFrom low = true) (ha : a < low) :
    m.byteAt a = Config.ramInit := by
  rw [Memory.byteAt, Memory.find_below h ha, Option.getD_none]

theorem Memory.byteAt_cons_same (k : Nat) (v : Byte) (m : Memory) : Memory.byteAt ((k, v) :: m) k = v := by
  rw [Memory.byteAt, Memory.find, if_pos rfl, Option.getD_some]

theorem Memory.byteAt_cons_other {k a : Nat} (v : Byte) (m : Memory) (h : k ≠ a) :
    Memory.byteAt ((k, v) :: m) a = m.byteAt a := by
  rw [Memory.byteAt, Memory.find, if_neg h, Memory.byteAt]

theorem Memory.wfFrom_head {low k : Nat} {v : Byte} {m : Memory} (h : Memory.wfFrom low ((k, v) :: m) = true) :
    Memory.wfFrom k ((k, v) :: m) = true := by
  obtain ⟨-, k_lt, listed, m_wf⟩ := Memory.wfFrom_cons_iff.1 h
  exact Memory.wfFrom_cons_iff.2 ⟨le_rfl, k_lt, listed, m_wf⟩

/-- A listed address reads as no unlisted one does, so a list that reads alike begins no later. -/
theorem Memory.le_head_of_byteAt_eq {low l k : Nat} {v : Byte} {m n : Memory}
    (hm : Memory.wfFrom low ((k, v) :: m) = true) (hn : n.wfFrom l = true)
    (h : ∀ a < 65536, Memory.byteAt ((k, v) :: m) a = n.byteAt a) : l ≤ k := by
  obtain ⟨-, k_lt, listed, -⟩ := Memory.wfFrom_cons_iff.1 hm
  by_contra hlt
  have reads_init : Memory.byteAt ((k, v) :: m) k = Config.ramInit :=
    (h k k_lt).trans (Memory.byteAt_below hn (Nat.lt_of_not_le hlt))
  exact listed ((Memory.byteAt_cons_same k v m).symm.trans reads_init)

theorem Memory.eq_of_byteAt_eq {m n : Memory} {low : Nat} (hm : m.wfFrom low = true) (hn : n.wfFrom low = true)
    (h : ∀ a < 65536, m.byteAt a = n.byteAt a) : m = n := by
  induction m generalizing n low with
  | nil =>
    cases n with
    | nil => rfl
    | cons c n =>
      exact absurd (Memory.le_head_of_byteAt_eq (l := c.1 + 1) hn rfl fun a ha => (h a ha).symm)
        (Nat.not_succ_le_self _)
  | cons c m ih =>
    cases n with
    | nil => exact absurd (Memory.le_head_of_byteAt_eq (l := c.1 + 1) hm rfl h) (Nat.not_succ_le_self _)
    | cons d n =>
      obtain ⟨k, v⟩ := c
      obtain ⟨l, w⟩ := d
      obtain ⟨-, k_lt, -, m_wf⟩ := Memory.wfFrom_cons_iff.1 hm
      obtain ⟨-, -, -, n_wf⟩ := Memory.wfFrom_cons_iff.1 hn
      have k_le : k ≤ l := Memory.le_head_of_byteAt_eq hn (Memory.wfFrom_head hm) fun a ha => (h a ha).symm
      obtain rfl : k = l := k_le.antisymm (Memory.le_head_of_byteAt_eq hm (Memory.wfFrom_head hn) h)
      obtain rfl : v = w := by rw [← Memory.byteAt_cons_same k v m, h k k_lt, Memory.byteAt_cons_same]
      have rest_alike : ∀ a < 65536, Memory.byteAt m a = Memory.byteAt n a := fun a ha => by
        obtain hle | hgt : a < k + 1 ∨ k < a := by omega
        · rw [Memory.byteAt_below m_wf hle, Memory.byteAt_below n_wf hle]
        · rw [← Memory.byteAt_cons_other v m hgt.ne, h a ha, Memory.byteAt_cons_other v n hgt.ne]
      rw [ih m_wf n_wf rest_alike]

/-- Settles O60: an address below 65536 is a word, and the lists are compared entry by entry. -/
theorem canonicalMemoriesThatReadAlikeAreEqual : Obligations.CanonicalMemoriesThatReadAlikeAreEqual := by
  unfold Obligations.CanonicalMemoriesThatReadAlikeAreEqual
  intro m n hm hn h
  refine Memory.eq_of_byteAt_eq hm hn fun a ha => ?_
  have word_eq : (BitVec.ofNat 16 a).toNat = a := Nat.mod_eq_of_lt ha
  have := h (BitVec.ofNat 16 a)
  rwa [Memory.read, Memory.read, word_eq] at this

/-! ## A cycle sees of the bus only the next answer -/

section Answers

variable (s : State) (a : Word)

@[simp] theorem State.busAnswer_set8 (r : Reg8) (v : Byte) : (s.set8 r v).busAnswer a = s.busAnswer a := rfl
@[simp] theorem State.busAnswer_set16 (r : Reg16) (v : Word) : (s.set16 r v).busAnswer a = s.busAnswer a := rfl
@[simp] theorem State.busAnswer_compareA (v : Byte) : (s.compareA v).busAnswer a = s.busAnswer a := rfl
@[simp] theorem State.busAnswer_incReg8 (r : Reg8) : (s.incReg8 r).busAnswer a = s.busAnswer a := rfl
@[simp] theorem State.busAnswer_decReg8 (r : Reg8) : (s.decReg8 r).busAnswer a = s.busAnswer a := rfl
@[simp] theorem State.busAnswer_rlReg8 (r : Reg8) : (s.rlReg8 r).busAnswer a = s.busAnswer a := rfl
@[simp] theorem State.busAnswer_bitTest (b : Fin 8) (v : Byte) : (s.bitTest b v).busAnswer a = s.busAnswer a := rfl

end Answers

/-- The same registers, context and fault latch, whatever the buses hold. -/
structure State.SameCore (s t : State) : Prop where
  regs : s.regs = t.regs
  ctx : s.ctx = t.ctx
  fault : s.fault = t.fault

theorem State.sameCore_iff {s t : State} : s.SameCore t ↔ s.regs = t.regs ∧ s.ctx = t.ctx ∧ s.fault = t.fault :=
  ⟨fun ⟨regs, ctx, fault⟩ => ⟨regs, ctx, fault⟩, fun ⟨regs, ctx, fault⟩ => ⟨regs, ctx, fault⟩⟩

end Sys2Proof.Machine

namespace Sys2Proof

open Machine Stated

section SameAnswer

variable {s t : State} {v : Byte}

/-- A row reads the bus at most once, so it makes the same of two equal cores that get the same answer. -/
theorem table_sameCore (f : Form) (core : s.SameCore t) (hs : ∀ a, s.busAnswer a = v) (ht : ∀ a, t.busAnswer a = v) :
    ∀ row ∈ f.table, (row s).SameCore (row t) := by
  obtain ⟨regs_eq, ctx_eq, fault_eq⟩ := core
  cases f <;> simp [State.sameCore_iff, hs, ht, regs_eq, ctx_eq, fault_eq, Form.table, nopTable, prefixCBTable, load8Table,
    Source8.readRows, Source8.value, Dest8.writeRows, Dest8.commit, readImm16, readImm8, readImmLo, readImmHi, readImmHigh,
    ldPairImmTable, ldSPHLTable, ldDirSPTable, writeDir16, cpTable, rmwHLTable, incRegTable, decRegTable, incPairTable,
    decPairTable, rlRegTable, bitTable, pushTable, pushRows, pushByte, State.pushAddress, State.hl, State.get8, State.get16]

theorem sameCore_exec (i : Instr) (core : s.SameCore t) (hs : ∀ a, s.busAnswer a = v) (ht : ∀ a, t.busAnswer a = v) :
    sameCore (exec i s) (exec i t) := by
  rw [exec_eq_runRow, exec_eq_runRow, runRow, runRow, core.ctx]
  cases hrow : i.form.table[t.ctx.step]? with
  | none => rfl
  | some row =>
    obtain ⟨regs, ctx, fault⟩ := table_sameCore i.form core hs ht row (List.mem_of_getElem? hrow)
    exact ⟨regs, ctx, fault⟩

/-- Each case of R92 is chosen by the core alone. -/
theorem sameCore_step (core : s.SameCore t) (hs : ∀ a, s.busAnswer a = v) (ht : ∀ a, t.busAnswer a = v) :
    sameCore (step s) (step t) := by
  obtain ⟨regs_eq, ctx_eq, fault_eq⟩ := core
  have latched_eq : s.latched = t.latched := by rw [State.latched, State.latched, ctx_eq]
  cases hfault : t.fault with
  | some r =>
    rw [step_of_fault hfault, step_of_fault (fault_eq.trans hfault)]
    rfl
  | none =>
    have s_noFault : s.fault = none := fault_eq.trans hfault
    by_cases hnibble : flagLowNibbleClear t.regs.f = true
    case neg =>
      rw [step_of_lowNibble hfault hnibble, step_of_lowNibble s_noFault (by rwa [regs_eq])]
      rfl
    case pos =>
      have s_nibble : flagLowNibbleClear s.regs.f = true := by rwa [regs_eq]
      cases hlatched : t.latched with
      | some i =>
        rw [step_of_latched hfault hnibble hlatched, step_of_latched s_noFault s_nibble (latched_eq.trans hlatched)]
        exact sameCore_exec i ⟨regs_eq, ctx_eq, fault_eq⟩ hs ht
      | none =>
        rw [step_of_unmapped hfault hnibble hlatched, step_of_unmapped s_noFault s_nibble (latched_eq.trans hlatched)]
        exact ⟨regs_eq, ctx_eq, by rw [State.raiseFatalFault_fault, State.raiseFatalFault_fault, regs_eq, ctx_eq]⟩

end SameAnswer

/-- Settles O59: a scripted answer is the same at every address. -/
theorem coreSeesTheBusOnlyThroughAnswers : Obligations.CoreSeesTheBusOnlyThroughAnswers := by
  unfold Obligations.CoreSeesTheBusOnlyThroughAnswers
  intro s t v regs_eq ctx_eq fault_eq hs ht
  obtain ⟨rest, s_answers⟩ := List.head?_eq_some_iff.1 hs
  obtain ⟨rest', t_answers⟩ := List.head?_eq_some_iff.1 ht
  exact sameCore_step ⟨regs_eq, ctx_eq, fault_eq⟩ (busAnswer_of_scripted s_answers) (busAnswer_of_scripted t_answers)

end Sys2Proof
end

section
/-!
PROOFS. Runs of one whole instruction (40_sequencer.md R95 to R97): from a ready state the rows of its cycle table are performed in
order, whatever the bus does, and at the end the machine is at the next boundary; instructions that follow one another add up.
-/

namespace Sys2Proof.Machine

section WholeRun

variable {i : Instr} {s t u : State} {k : Nat} {row : Row}

/-! ## Inside an instruction -/

/-- Row `k` of an instruction runs next: `State.ReadyFor` for any row. -/
structure State.AtRow (i : Instr) (k : Nat) (s : State) : Prop where
  noFault : s.fault = none
  flagsOk : flagLowNibbleClear s.regs.f = true
  latch : s.latched = some i
  step_eq : s.ctx.step = k

theorem State.ReadyFor.atRow (h : s.ReadyFor i) : s.AtRow i 0 := ⟨h.noFault, h.flagsOk, h.latch, h.step0⟩

theorem State.AtRow.exec_eq (h : s.AtRow i k) (hrow : i.form.table[k]? = some row) : exec i s = .next (row s) :=
  exec_of_getElem? (h.step_eq ▸ hrow)

theorem State.AtRow.step_eq_exec (h : s.AtRow i k) : step s = exec i s := step_of_latched h.noFault h.flagsOk h.latch

/-- A row that is not the last leads to the next one. -/
theorem State.AtRow.succ (h : s.AtRow i k) (hk : k + 1 < i.cycles) (hexec : exec i s = .next t) : t.AtRow i (k + 1) := by
  obtain rfl := h.step_eq
  obtain ⟨-, step_eq, latched_eq⟩ | ⟨hlast, -⟩ | ⟨rfl, hstep, -⟩ := exec_cursor_cases hexec
  · exact ⟨(exec_fault hexec).trans h.noFault, exec_keeps_flagLowNibbleClear hexec h.flagsOk, latched_eq.trans h.latch,
      step_eq⟩
  · exact absurd hlast hk.ne
  · exact absurd hk (by rw [hstep]; decide)

/-! ## Row after row -/

/-- The state after some rows, performed in order. -/
def performRows (rows : List Row) (s : State) : State := rows.foldl (fun u row => row u) s

theorem performRows_concat (rows : List Row) (row : Row) (s : State) :
    performRows (rows ++ [row]) s = row (performRows rows s) := by
  rw [performRows, List.foldl_append]
  rfl

/-- How far the first `k` cycles of a form move pc (10_state.md R22). -/
def pcSteps (f : Form) (k : Nat) : Nat := ((f.busPattern.take k).map Slot.pcStep).sum

theorem pcSteps_succ {f : Form} {slot : Slot} (hslot : f.busPattern[k]? = some slot) :
    pcSteps f (k + 1) = pcSteps f k + slot.pcStep := by
  rw [pcSteps, List.take_add_one, hslot, Option.toList_some, List.map_append, List.sum_append, pcSteps, List.map_singleton,
    List.sum_singleton]

/-- Before the last cycle pc moves over the immediate bytes (30_encoding.md R76, 40_sequencer.md R106). -/
theorem pcSteps_before_last (f : Form) (hk : k + 1 = f.cycles) : pcSteps f k = f.immCount := by
  obtain rfl : k = f.cycles - 1 := (Nat.eq_sub_of_add_eq hk)
  cases f <;> rfl

/-- `u` is where a run from `s` stands with row `k` next: the earlier rows are performed, pc is over the bytes they read at it, and
the events of `u` begin with those of `s`. -/
structure State.ReachesRow (i : Instr) (k : Nat) (s u : State) : Prop where
  run_eq : run k s = .next u
  atRow : u.AtRow i k
  rows_eq : u = performRows (i.form.table.take k) s
  pc_eq : u.regs.pc = s.regs.pc + BitVec.ofNat 16 (pcSteps i.form k)
  events_eq : ∃ es, u.bus.events = s.bus.events ++ es

theorem State.ReadyFor.reachesRow_zero (h : s.ReadyFor i) : s.ReachesRow i 0 s where
  run_eq := rfl
  atRow := h.atRow
  rows_eq := rfl
  pc_eq := (BitVec.add_zero _).symm
  events_eq := ⟨[], (List.append_nil _).symm⟩

theorem State.ReachesRow.performs (h : s.ReachesRow i k u) (hrow : i.form.table[k]? = some row) :
    run (k + 1) s = .next (row u) ∧ row u = performRows (i.form.table.take (k + 1)) s := by
  have steps : step u = .next (row u) := h.atRow.step_eq_exec.trans (h.atRow.exec_eq hrow)
  refine ⟨(run_add_of_next h.run_eq).trans (run_succ_of_next steps), ?_⟩
  rw [List.take_add_one, hrow, Option.toList_some, performRows_concat, ← h.rows_eq]

theorem State.ReachesRow.succ (h : s.ReachesRow i k u) (hk : k + 1 < i.cycles) : ∃ t, s.ReachesRow i (k + 1) t := by
  obtain ⟨row, hrow⟩ := exists_row_of_lt_cycles (Nat.lt_of_succ_lt hk)
  have hexec : exec i u = .next (row u) := h.atRow.exec_eq hrow
  obtain ⟨run_eq, rows_eq⟩ := h.performs hrow
  obtain ⟨slot, hslot, pc_eq⟩ := exec_pc hexec
  obtain ⟨es, events_eq⟩ := h.events_eq
  refine ⟨row u, run_eq, h.atRow.succ hk hexec, rows_eq, ?pc, ?events⟩
  case pc =>
    rw [h.atRow.step_eq] at hslot
    rw [pc_eq, h.pc_eq, pcSteps_succ hslot, BitVec.ofNat_add, BitVec.add_assoc]
  case events =>
    obtain same | ⟨e, grown⟩ := exec_events hexec
    · exact ⟨es, same.trans events_eq⟩
    · exact ⟨es ++ [e], by rw [grown, events_eq, List.append_assoc]⟩

theorem State.ReadyFor.exists_reachesRow (h : s.ReadyFor i) (hk : k < i.cycles) : ∃ u, s.ReachesRow i k u := by
  induction k with
  | zero => exact ⟨s, h.reachesRow_zero⟩
  | succ k ih =>
    obtain ⟨u, reaches⟩ := ih (Nat.lt_of_succ_lt hk)
    exact reaches.succ hk

/-! ## To the boundary -/

/-- `t` is the boundary a ready instruction runs to (40_sequencer.md R95 to R97): all its rows are performed, pc is over its
immediates and the next opcode, and reading that opcode was the last bus event. -/
structure State.EndsAt (i : Instr) (s t : State) : Prop where
  run_eq : run i.cycles s = .next t
  rows_eq : t = performRows i.form.table s
  boundary : t.AtBoundary
  flagsOk : flagLowNibbleClear t.regs.f = true
  pc_eq : t.regs.pc = s.regs.pc + BitVec.ofNat 16 i.immCount + 1
  events_eq : ∃ es, t.bus.events = s.bus.events ++ es ++
    [{ kind := .read, address := s.regs.pc + BitVec.ofNat 16 i.immCount, data := t.ctx.opcode }]

theorem State.ReadyFor.exists_endsAt (h : s.ReadyFor i) (hi : i ≠ .prefixCB) : ∃ t, s.EndsAt i t := by
  obtain ⟨k, hk⟩ : ∃ k, k + 1 = i.cycles := Nat.exists_add_one_eq.2 (cycles_pos i)
  obtain ⟨u, reaches⟩ := h.exists_reachesRow (k := k) (Nat.lt_of_succ_le hk.le)
  obtain ⟨row, hrow⟩ := exists_row_of_lt_cycles (i := i) (Nat.lt_of_succ_le hk.le)
  have hexec : exec i u = .next (row u) := reaches.atRow.exec_eq hrow
  obtain ⟨run_eq, rows_eq⟩ := reaches.performs hrow
  obtain ⟨v, fetches, bus_eq, pc_eq⟩ := exec_last_row hi (reaches.atRow.step_eq ▸ hk)
  obtain ⟨es, events_eq⟩ := reaches.events_eq
  have last_is_fetch : row u = v.fetch := Host.Outcome.next.inj (hexec.symm.trans fetches)
  have v_pc : v.regs.pc = s.regs.pc + BitVec.ofNat 16 i.immCount := by
    rw [pc_eq, reaches.pc_eq, pcSteps_before_last i.form hk]
    rfl
  have all_rows : i.form.table.take (k + 1) = i.form.table := List.take_of_length_le ((table_length i.form).trans_le hk.ge)
  have noFault : (row u).fault = none := (exec_fault hexec).trans reaches.atRow.noFault
  have flagsOk := exec_keeps_flagLowNibbleClear hexec reaches.atRow.flagsOk
  rw [all_rows] at rows_eq
  rw [hk] at run_eq
  rw [last_is_fetch] at run_eq rows_eq noFault flagsOk
  refine ⟨v.fetch, run_eq, rows_eq, ⟨noFault, rfl, rfl⟩, flagsOk, ?pc, es, ?events⟩
  case pc => rw [State.fetch_regs, v_pc]
  case events => rw [State.fetch_bus, State.afterRead_events, bus_eq, events_eq, v_pc, State.fetch_ctx, ← v_pc]

/-- A table written out as a list of rows is performed row by row. -/
theorem State.ReadyFor.run_table {rows : List Row} (h : s.ReadyFor i) (hi : i ≠ .prefixCB) (hrows : i.form.table = rows) :
    run rows.length s = .next (performRows rows s) := by
  obtain ⟨t, ends⟩ := h.exists_endsAt hi
  have length_eq : rows.length = i.cycles := hrows ▸ table_length i.form
  rw [length_eq, ends.run_eq, ends.rows_eq, hrows]

/-! ## Whole instructions -/

/-- What O32 says of the end of a whole instruction of length `n` (30_encoding.md R70). -/
structure State.EndsWhole (n : Nat) (s t : State) : Prop where
  boundary : t.AtBoundary
  flagsOk : flagLowNibbleClear t.regs.f = true
  pc_eq : t.regs.pc = s.regs.pc + BitVec.ofNat 16 n
  events_eq : ∃ es, t.bus.events = s.bus.events ++ es ++
    [{ kind := .read, address := s.regs.pc + BitVec.ofNat 16 n - 1, data := t.ctx.opcode }]

/-- From row c0 the bytes still to be read are the immediates and the next opcode. -/
theorem State.EndsAt.endsWhole (h : s.EndsAt i t) : s.EndsWhole (1 + i.immCount) t := by
  have pc_eq : s.regs.pc + BitVec.ofNat 16 (1 + i.immCount) = s.regs.pc + BitVec.ofNat 16 i.immCount + 1 := by
    rw [BitVec.ofNat_add, BitVec.add_comm (BitVec.ofNat 16 1), ← BitVec.add_assoc]
    rfl
  obtain ⟨es, events_eq⟩ := h.events_eq
  exact ⟨h.boundary, h.flagsOk, h.pc_eq.trans pc_eq.symm, es, by rw [events_eq, pc_eq, BitVec.add_sub_cancel]⟩

/-- PREFIX CB's cycle reads one byte more. -/
theorem State.EndsWhole.of_latchCb {n : Nat} (h : s.latchCb.EndsWhole n t) : s.EndsWhole (1 + n) t := by
  have pc_eq : s.latchCb.regs.pc + BitVec.ofNat 16 n = s.regs.pc + BitVec.ofNat 16 (1 + n) := by
    rw [State.latchCb_regs, BitVec.ofNat_add, ← BitVec.add_assoc]
    rfl
  obtain ⟨es, events_eq⟩ := h.events_eq
  refine ⟨h.boundary, h.flagsOk, h.pc_eq.trans pc_eq,
    [{ kind := .read, address := s.regs.pc, data := s.busAnswer s.regs.pc }] ++ es, ?_⟩
  rw [events_eq, pc_eq, State.latchCb_bus, State.afterRead_events, List.append_assoc s.bus.events]

/-- A CB-table instruction is ready after PREFIX CB's cycle, any other at once (40_sequencer.md R112, R113). -/
theorem State.WholeReady.exists_endsWhole (h : s.WholeReady i) :
    ∃ t, run i.totalCycles s = .next t ∧ s.EndsWhole i.length t := by
  obtain ⟨⟨noFault, step0, -⟩, flagsOk, whole, hlatch⟩ := h
  rw [Instr.totalCycles, Instr.length]
  cases hp : i.prefixed with
  | false =>
    rw [hp, if_neg Bool.false_ne_true] at hlatch
    have ready : s.ReadyFor i := ⟨noFault, flagsOk, hlatch, step0⟩
    obtain ⟨t, ends⟩ := ready.exists_endsAt whole
    exact ⟨t, by simpa using ends.run_eq, ends.endsWhole⟩
  | true =>
    rw [hp, if_pos rfl] at hlatch
    have prefixReady : s.ReadyFor .prefixCB := ⟨noFault, flagsOk, hlatch.1, step0⟩
    obtain ⟨t, ends⟩ := (readyFor_latchCb prefixReady hlatch.2).exists_endsAt whole
    refine ⟨t, ?_, by simpa [← Nat.add_assoc] using ends.endsWhole.of_latchCb⟩
    rw [if_pos rfl, Nat.add_comm, run_succ_of_next (step_prefixCB prefixReady), ends.run_eq]

end WholeRun

/-- Settles O32: the end of a whole instruction, whichever table it stands in. -/
theorem wholeInstructionReachesTheNextBoundary : Obligations.WholeInstructionReachesTheNextBoundary := by
  unfold Obligations.WholeInstructionReachesTheNextBoundary
  intro i s whole
  obtain ⟨t, run_eq, boundary, flagsOk, pc_eq, events_eq⟩ := whole.exists_endsWhole
  exact ⟨t, run_eq, boundary, flagsOk, pc_eq, events_eq⟩

/-- Settles O33: by induction on the list, each instruction's end being the next one's start. -/
theorem straightLineRunTakesTheSumOfCycles : Obligations.StraightLineRunTakesTheSumOfCycles := by
  unfold Obligations.StraightLineRunTakesTheSumOfCycles
  intro is
  induction is with
  | nil => exact fun s boundary _ => ⟨s, rfl, boundary, (BitVec.add_zero _).symm⟩
  | cons i is ih =>
    intro s _ ⟨whole, follow⟩
    obtain ⟨t, run_eq, ends⟩ := whole.exists_endsWhole
    obtain ⟨u, rest_run, boundary, pc_eq⟩ := ih t ends.boundary (follow t run_eq)
    refine ⟨u, ?run, boundary, ?pc⟩
    case run => rw [List.map_cons, List.sum_cons, run_add_of_next run_eq, rest_run]
    case pc => rw [pc_eq, ends.pc_eq, List.map_cons, List.sum_cons, BitVec.ofNat_add, BitVec.add_assoc]

end Sys2Proof.Machine
end

section
/-!
PROOFS. The whole runs of single forms: `State.ReadyFor.run_table` gives the composition of the rows of the form's table, and the
obligations are that composition, computed.
-/

namespace Sys2Proof.Machine

section Composition

variable {i : Instr} {s t : State}

theorem State.eq_of_fields (hregs : s.regs = t.regs) (hctx : s.ctx = t.ctx) (hfault : s.fault = t.fault)
    (hbus : s.bus = t.bus) : s = t := by
  cases s
  cases t
  cases hregs
  cases hctx
  cases hfault
  cases hbus
  rfl

/-- A form's whole run, for an instruction given by its opcode pattern. -/
theorem State.ReadyFor.run_form (h : s.ReadyFor i) {f : Form} (hform : i.form = f) (hf : f ≠ .prefixCB) {rows : List Row}
    (hrows : f.table = rows) : run rows.length s = .next (performRows rows s) := by
  have whole : i ≠ .prefixCB := fun heq => hf (hform ▸ heq ▸ rfl)
  exact h.run_table whole ((congrArg Form.table hform).trans hrows)

/-! ## The two immediate rows (40_sequencer.md R101) -/

/-- The word the two bytes answered at pc and pc + 1 make, the low byte first (20_memory.md R55). -/
def State.imm16 (s : State) : Word :=
  pairOf ((s.afterRead s.regs.pc).busAnswer (s.regs.pc + 1)) (s.busAnswer s.regs.pc)

/-- Both rows of IMM16: scratch16 holds the word, whatever it held before. -/
theorem readImm16_eq (s : State) :
    readImmHi (readImmLo s) =
      { regs := { s.regs with pc := s.regs.pc + 2 }
        ctx := { s.ctx with step := s.ctx.step + 2, scratch16 := s.imm16 }
        fault := s.fault
        bus := ((s.afterRead s.regs.pc).afterRead (s.regs.pc + 1)).bus } := by
  have pc_eq : s.regs.pc + 1 + 1 = s.regs.pc + 2 := BitVec.add_assoc _ _ _
  have low_kept : loByte (readImmLo s).ctx.scratch16 = s.busAnswer s.regs.pc := loByte_pairOf _ _
  refine State.eq_of_fields ?regs ?ctx rfl rfl
  case regs => exact congrArg (fun p => { s.regs with pc := p }) pc_eq
  case ctx =>
    change { s.ctx with
      step := s.ctx.step + 1 + 1
      scratch16 := pairOf ((readImmLo s).busAnswer (s.regs.pc + 1)) (loByte (readImmLo s).ctx.scratch16) } = _
    rw [low_kept]
    rfl

theorem pc_add_three (p : Word) : p + 3 = p + 2 + 1 := by
  rw [BitVec.add_assoc]
  rfl

/-! ## Over the flat RAM -/

/-- FETCH over the flat RAM latches the RAM's byte at pc (20_memory.md R51). -/
theorem fetch_of_flat (hflat : s.bus.answers = []) :
    s.fetch =
      { regs := { s.regs with pc := s.regs.pc + 1 }
        ctx := { opcode := s.bus.ram.read s.regs.pc, prefixed := false, step := 0, scratch8 := 0, scratch16 := 0 }
        fault := s.fault
        bus := { ram := s.bus.ram, answers := [],
                 events := s.bus.events ++
                   [{ kind := .read, address := s.regs.pc, data := s.bus.ram.read s.regs.pc }] } } := by
  refine State.eq_of_fields rfl ?ctx rfl ?bus
  case ctx => rw [State.fetch_ctx, busAnswer_of_flat hflat]
  case bus => rw [State.fetch_bus, State.afterRead, busAnswer_of_flat hflat, hflat, List.tail_nil]

/-- Over the flat RAM the byte written to an address is what the next read of it answers. -/
theorem busAnswer_busWrite_same (hflat : s.bus.answers = []) (hwf : s.bus.ram.wf = true) (a : Word) (v : Byte) :
    (s.busWrite a v).busAnswer a = v :=
  (busAnswer_of_flat (s := s.busWrite a v) hflat a).trans (Memory.read_write_same a v hwf)

/-- The first two rows of a read-modify-write, for a change that writes a result to scratch8 and its flags to f
(44_incdec.md R171): the byte answered at hl is changed and written back. -/
def State.afterReadModify (s : State) (res flags : Byte → Byte → Byte) : State :=
  { regs := { s.regs with f := flags (s.busAnswer s.hl) s.regs.f }
    ctx := { s.ctx with step := s.ctx.step + 2, scratch8 := res (s.busAnswer s.hl) s.regs.f }
    fault := s.fault
    bus := ((s.afterRead s.hl).busWrite s.hl (res (s.busAnswer s.hl) s.regs.f)).bus }

/-- INC (HL), DEC (HL) and RL (HL) differ in the result and the flags alone. -/
theorem performRows_rmwHLTable (change : State → State) (res flags : Byte → Byte → Byte)
    (hchange : ∀ u : State, change u =
      (u.setF (flags u.ctx.scratch8 u.regs.f)).setScratch8 (res u.ctx.scratch8 u.regs.f)) (s : State) :
    performRows (rmwHLTable change) s = (s.afterReadModify res flags).fetch := by
  simp only [performRows, rmwHLTable_rows, List.foldl, hchange]
  rfl

theorem State.ReadyFor.run_rmwHLTable (h : s.ReadyFor i) {f : Form} (hform : i.form = f) (hf : f ≠ .prefixCB)
    {change : State → State} (hrows : f.table = rmwHLTable change) {res flags : Byte → Byte → Byte}
    (hchange : ∀ u : State, change u =
      (u.setF (flags u.ctx.scratch8 u.regs.f)).setScratch8 (res u.ctx.scratch8 u.regs.f)) :
    run 3 s = .next (s.afterReadModify res flags).fetch := by
  rw [← performRows_rmwHLTable change res flags hchange]
  exact h.run_form hform hf hrows

end Composition

/-! ## The obligations -/

/-- Settles O27: the two immediate rows, then the write of the pair and FETCH. -/
theorem loadPairImmediateWholeRun : Obligations.LoadPairImmediateWholeRun := by
  unfold Obligations.LoadPairImmediateWholeRun
  intro rr i s hdecode ready s1 s2 nn
  refine (ready.run_form (form_of_decode (f := .ldPairImm rr) hdecode) nofun (ldPairImmTable_rows rr)).trans (congrArg _ ?_)
  simp only [performRows, List.foldl]
  rw [readImm16_eq, ready.noFault, pc_add_three]
  cases rr <;> rfl

/-- Settles O28: the two immediate rows, then the read at their address, then the write of a and FETCH. -/
theorem loadAAbsoluteWholeRun : Obligations.LoadAAbsoluteWholeRun := by
  unfold Obligations.LoadAAbsoluteWholeRun
  intro i s hdecode ready s1 s2 nn s3
  refine (ready.run_form (form_of_decode (f := .ldADir) hdecode) nofun (load8Table_reg_dir8 .a)).trans (congrArg _ ?_)
  simp only [performRows, List.foldl]
  rw [readImm16_eq, ready.noFault, pc_add_three]
  rfl

/-- Settles O29: the three forms share the read-modify-write table, and over the flat RAM its accesses are the RAM's. -/
theorem readModifyWriteWholeRun : Obligations.ReadModifyWriteWholeRun := by
  unfold Obligations.ReadModifyWriteWholeRun
  intro i s hflat ready res flags hforms v ram
  have runs : run 3 s = .next (s.afterReadModify res flags).fetch := by
    obtain ⟨rfl, rfl, rfl⟩ | ⟨rfl, rfl, rfl⟩ | ⟨rfl, rfl, rfl⟩ := hforms
    · exact ready.run_rmwHLTable (f := .incIndHL) rfl nofun rfl fun _ => rfl
    · exact ready.run_rmwHLTable (f := .decIndHL) rfl nofun rfl fun _ => rfl
    · exact ready.run_rmwHLTable (f := .rlIndHL) rfl nofun rfl fun _ => rfl
  have flat_after : (s.afterReadModify res flags).bus.answers = [] := by
    simp [State.afterReadModify, hflat]
  have read_eq : s.busAnswer s.hl = v := busAnswer_of_flat hflat _
  rw [runs, fetch_of_flat flat_after]
  simp [State.afterReadModify, read_eq, ready.noFault, ram]

/-- Settles O30: sp goes down by one before each of the two writes, so they go to sp - 1 and sp - 2. -/
theorem pushWholeRunLeavesLittleEndianPair : Obligations.PushWholeRunLeavesLittleEndianPair := by
  unfold Obligations.PushWholeRunLeavesLittleEndianPair
  intro qq i s hdecode _ hwf ready
  have runs := ready.run_form (form_of_decode (f := .push qq) hdecode) nofun (pushTable_rows qq)
  have sp_eq : s.regs.sp - 2 = s.regs.sp - 1 - 1 := by bv_omega
  have sp_ne : s.regs.sp - 1 ≠ s.regs.sp - 1 - 1 := by bv_omega
  rw [sp_eq]
  refine ⟨_, runs, rfl, ?high, ?low, fun a ha1 ha2 => ?frame⟩
  case high => exact (Memory.read_write_other _ _ sp_ne).trans (Memory.read_write_same _ _ hwf)
  case low => exact Memory.read_write_same _ _ (Memory.wf_write _ _ hwf)
  case frame => exact (Memory.read_write_other _ _ ha2).trans (Memory.read_write_other _ _ ha1)

/-- Settles O31: the write goes to the address the next fetch reads. -/
theorem storeToNextOpcodeIsFetched : Obligations.StoreToNextOpcodeIsFetched := by
  unfold Obligations.StoreToNextOpcodeIsFetched
  refine ⟨fun src i s hdecode hflat hwf ready hpc => ?register, fun i s hdecode hflat hwf ready hpc => ?immediate⟩
  case register =>
    have runs := ready.run_form (form_of_decode (f := .ldIndHLReg src) hdecode) nofun (load8Table_ind_reg .hl src)
    have fetched : (s.busWrite s.hl (s.get8 src)).busAnswer s.regs.pc = s.get8 src := by
      rw [← hpc]
      exact busAnswer_busWrite_same hflat hwf _ _
    exact ⟨_, runs, fetched, ready.noFault, rfl, rfl⟩
  case immediate =>
    have runs := ready.run_form (form_of_decode (f := .ldIndHLImm) hdecode) nofun (load8Table_ind_imm8 .hl)
    have flat_after : (s.afterRead s.regs.pc).bus.answers = [] := by rw [State.afterRead_answers, hflat, List.tail_nil]
    have fetched : ((s.afterRead s.regs.pc).busWrite s.hl (s.busAnswer s.regs.pc)).busAnswer (s.regs.pc + 1) =
        s.bus.ram.read s.regs.pc := by
      rw [← hpc, busAnswer_of_flat hflat]
      exact busAnswer_busWrite_same flat_after hwf _ _
    exact ⟨_, runs, fetched, ready.noFault, rfl, rfl⟩

end Sys2Proof.Machine
end

section
/-!
PROOFS. From bytes in memory to the instruction that runs (30_encoding.md R70, R81; 40_sequencer.md R94).
-/

namespace Sys2Proof

open Machine

/-- The immediates among three bytes: those after the opcode, of which there are at most two (30_encoding.md R76). -/
theorem imm_of_takeImm_pair {i : Instr} {b1 b2 : Byte} {rest : List Byte} {c : Code}
    (h : takeImm i [b1, b2] = .ok (c, rest)) :
    c.imm = (if i.immCount = 0 then [] else if i.immCount = 1 then [b1] else [b1, b2]) := by
  obtain ⟨-, hlen, split_eq⟩ := takeImm_eq_ok_iff.1 h
  have imm_eq : c.imm = [b1, b2].take i.immCount := by rw [split_eq, ← hlen, List.take_left]
  obtain h0 | h1 | h2 : i.immCount = 0 ∨ i.immCount = 1 ∨ i.immCount = 2 := by
    have := immCount_le_two i
    omega
  · rw [imm_eq, h0]; rfl
  · rw [imm_eq, h1]; rfl
  · rw [imm_eq, h2]; rfl

/-- Settles O49: FETCH latches the first byte, which is the opcode or the prefix byte, and the next read over the flat RAM answers
the second, which is then the cb-opcode. -/
theorem bytesAtPcAreFetchedAndRun : Obligations.BytesAtPcAreFetchedAndRun := by
  unfold Obligations.BytesAtPcAreFetchedAndRun
  intro s c rest hfault hnibble hflat h
  have flagsOk : flagLowNibbleClear s.fetch.regs.f = true := (flagLowNibbleClear_iff _).2 hnibble
  have boundary : s.fetch.AtBoundary := ⟨hfault, rfl, rfl⟩
  have latched_eq : s.fetch.latched = decode (s.bus.ram.read s.regs.pc) false := by
    rw [State.latched, fetch_of_flat hflat]
  have next_eq : s.fetch.busAnswer s.fetch.regs.pc = s.bus.ram.read (s.regs.pc + 1) := by
    rw [fetch_of_flat hflat]
    rfl
  obtain ⟨op, tail, i, bytes_eq, hop, whole, himm⟩ | ⟨cb, tail, i, bytes_eq, hcb, himm⟩ := decodeBytes_eq_ok h
  case inl =>
    obtain ⟨rfl, rfl⟩ := List.cons.inj bytes_eq
    have imm_eq := imm_of_takeImm_pair himm
    obtain ⟨rfl, -, -⟩ := takeImm_eq_ok_iff.1 himm
    have hp : c.instr.prefixed = false := prefixed_of_decode hop
    have latched : s.fetch.latched = some c.instr := latched_eq.trans hop
    refine ⟨⟨boundary, flagsOk, whole, by simpa [hp] using latched⟩, ?_, imm_eq⟩
    rw [if_neg (by simp [hp]), step_of_latched boundary.noFault flagsOk latched]
  case inr =>
    obtain ⟨op_eq, tail_eq⟩ := List.cons.inj bytes_eq
    obtain ⟨rfl, rfl⟩ := List.cons.inj tail_eq
    obtain ⟨rfl, hlen, -⟩ := takeImm_eq_ok_iff.1 himm
    have hp : c.instr.prefixed = true := prefixed_of_decode hcb
    have no_imm : c.instr.immCount = 0 := immCount_of_prefixed hp
    have latched : s.fetch.latched = some .prefixCB := by rw [latched_eq, op_eq, decode_cbPrefixByte]
    have whole : c.instr ≠ .prefixCB := fun heq => absurd hp (by rw [heq]; decide)
    refine ⟨⟨boundary, flagsOk, whole, ?_⟩, ?_, ?_⟩
    · rw [if_pos hp, next_eq]
      exact ⟨latched, hcb⟩
    · rw [if_pos hp, step_of_latched boundary.noFault flagsOk latched]
    · rw [if_pos no_imm, List.eq_nil_of_length_eq_zero (hlen.trans no_imm)]

end Sys2Proof
end
